-- ==== Sys2Proof/Word.lean ====
section
/-! DEFINITION. The word types of the NS-Link transceiver and their plainest arithmetic.
Bytes are unsigned, 0 to 255 (R11, D1); the only wider value is the checksum accumulator (R75). -/

namespace Sys2Proof

/-- A byte of the wire, of a header field or of a payload (R11). -/
abbrev Byte := BitVec 8

/-- The checksum accumulator, `CSUM_ACC_BITS` = 16 bits (R7, R140). -/
abbrev Acc := BitVec 16

/-- `zext_16` of a byte (R11). -/
def zext16 (b : Byte) : Acc := b.setWidth 16

/-- The successor of a sequence number, modulo 256 (R35, R36, R223). -/
def seqNext (n : Byte) : Byte := n + 1

/-- `SENTINEL`, the end-of-frame byte (R7). -/
def sentinelByte : Byte := 0x7E

/-- `ESCAPE`, the escape byte of the framer (R7). -/
def escapeByte : Byte := 0x7D

/-- `HEADER_BYTES`, the length of a header and of an acknowledgment unit (R7). -/
def headerBytes : Nat := 5

/-- `BITS_PER_BYTE`, the data intervals of a byte slot (R7). -/
def bitsPerByte : Nat := 8

end Sys2Proof
end

