-- ==== Sys2Proof/Config.lean ====
section
/-! DEFINITION. What an instance of the hardware fixes before reset (R8, R9, R10, R39), and the free
values: what the LINE and the HOST choose in a tick, which no rule of the spec fixes (R46). -/

namespace Sys2Proof

/-- The parameters of an instance (R8, R9). Durations of the source are in milliseconds; `PULSE_TICKS`
and `ACK_TIMEOUT_TICKS` are derived from them as R9 gives them. Voltages are integers in an unnamed
unit: the rules only compare them (R186; log entry 4). -/
structure Config where
  /-- `MY_ID` -/
  myId : Byte
  /-- `ENDPOINT_NAME`, opaque, of no effect on any rule (R303) -/
  endpointName : String
  /-- `TICK` in milliseconds -/
  tick : Nat
  /-- `PULSE_WIDTH` in milliseconds -/
  pulseWidth : Nat
  /-- `ACK_TIMEOUT` in milliseconds -/
  ackTimeout : Nat
  /-- `GUARD_TICKS` -/
  guardTicks : Nat
  /-- `DWELL_TICKS` -/
  dwellTicks : Nat
  /-- `SAMPLE_OFFSET` -/
  sampleOffset : Nat
  /-- `MAX_PAYLOAD` in bytes -/
  maxPayload : Nat
  /-- `QUEUE_CAP` in entries -/
  queueCap : Nat
  /-- `MAX_ATTEMPTS`, retransmissions of one frame -/
  maxAttempts : Nat
  /-- `RETRY_BITS`, width of the retry counter -/
  retryBits : Nat
  /-- `V_LOW` -/
  vLow : Int
  /-- `V_NEUTRAL` -/
  vNeutral : Int
  /-- `V_HIGH` -/
  vHigh : Int
  /-- `TH_LOW` -/
  thLow : Int
  /-- `TH_HIGH` -/
  thHigh : Int
  /-- `DUP_REACK` -/
  dupReack : Bool
  deriving DecidableEq, Repr

/-- `PULSE_TICKS` = `PULSE_WIDTH / TICK` (R9). -/
def Config.pulseTicks (c : Config) : Nat := c.pulseWidth / c.tick

/-- `ACK_TIMEOUT_TICKS` = `ACK_TIMEOUT / TICK` (R9). -/
def Config.ackTimeoutTicks (c : Config) : Nat := c.ackTimeout / c.tick

/-- `RX_BUF_BYTES` = `HEADER_BYTES + MAX_PAYLOAD` (R9, R23, C3). -/
def Config.rxBufBytes (c : Config) : Nat := headerBytes + c.maxPayload

/-- `BYTE_TICKS` = `GUARD_TICKS + 9 * PULSE_TICKS` (R103, R193). -/
def Config.byteTicks (c : Config) : Nat := c.guardTicks + 9 * c.pulseTicks

/-- The constraints of R10, and that every duration is a whole number of ticks (R9). -/
def Config.legal (c : Config) : Bool :=
  decide (1 ≤ c.tick ∧ c.pulseTicks * c.tick = c.pulseWidth ∧ c.ackTimeoutTicks * c.tick = c.ackTimeout
    ∧ 2 ≤ c.pulseTicks
    ∧ 1 ≤ c.dwellTicks ∧ c.dwellTicks ≤ c.guardTicks
    ∧ c.sampleOffset < c.pulseTicks
    ∧ 1 ≤ c.queueCap ∧ 1 ≤ c.ackTimeoutTicks
    ∧ c.maxAttempts + 1 < 2 ^ c.retryBits
    ∧ c.vLow < c.thLow ∧ c.thLow ≤ c.vNeutral ∧ c.vNeutral ≤ c.thHigh ∧ c.thHigh < c.vHigh)

/-- The defaults of R8 and R9. `MY_ID`, `ENDPOINT_NAME`, the voltages and the thresholds have no
default in the spec: the values here are a DESIGN CHOICE (log entry 3). -/
def Config.default : Config where
  myId := 0
  endpointName := ""
  tick := 1
  pulseWidth := 200
  ackTimeout := 10000
  guardTicks := 200
  dwellTicks := 200
  sampleOffset := 100
  maxPayload := 1500
  queueCap := 5
  maxAttempts := 5
  retryBits := 8
  vLow := -2
  vNeutral := 0
  vHigh := 2
  thLow := -1
  thHigh := 1
  dupReack := false

/-- What the HOST presents in one tick: the request vector `h_req[3:0]` and the operands of `SEND`
(R111, R260). `h_len` is the length of `payload` (log entry 9). DESIGN CHOICE (log entry 28): it has no
width, since R111 gives one, 11 bits, at the default `MAX_PAYLOAD` only; a list of any length may be presented,
and one longer than `MAX_PAYLOAD` is answered `TooLong`. -/
structure HostIn where
  req : BitVec 4
  dst : Byte
  payload : List Byte
  deriving DecidableEq, Repr, Inhabited

/-- The voltage the LINE presents in tick `t` where the model is given none: any value (R301, IU3,
IU4; log entry 5). -/
opaque Config.lineChoice : Nat → Int

/-- The requests the HOST makes in tick `t` where the model is given none: any value (IU11; log
entry 5). -/
opaque Config.hostChoice : Nat → HostIn

/-- The voltage the line shows under contention, of the drivers' levels given as codes: unspecified
(R302, IU3, parameter `LINE_RESOLVE`; log entry 6). -/
opaque Config.lineContention : List (BitVec 2) → Int

end Sys2Proof
end

