-- ==== Sys2Proof/Syntax.lean ====
section
/-! DEFINITION. The data the hardware moves (frames, descriptors, levels, state codes, answers, causes)
and its operations: one constructor of `Instr` for each row of spec/opcode_table.json (R125), with the
operands the row's rule names. -/

namespace Sys2Proof

/-- The levels `line_out` takes (R42, R101). -/
inductive Level where
  | neutral
  | high
  | low
  deriving DecidableEq, Repr

/-- The transmit path's states (R25). -/
inductive TxState where
  | idle
  | sending
  | awaitingAck
  | failed
  | halted
  deriving DecidableEq, Repr

/-- The phases of the transmit sequencer (R26). -/
inductive TxPhase where
  | guard
  | start
  | bit
  deriving DecidableEq, Repr

/-- The receive path's states (R27). -/
inductive RxState where
  | hunt
  | data
  | deliver
  | halted
  deriving DecidableEq, Repr

/-- The answers to `SEND` and `RECV` (R112). -/
inductive Rsp where
  | ok
  | wouldBlock
  | cancelled
  | tooLong
  deriving DecidableEq, Repr

/-- The two requests that are answered (R112). -/
inductive HostCall where
  | send
  | recv
  deriving DecidableEq, Repr

/-- The discard-cause labels (R282); `acted` is code 0, `none` in the spec's table. -/
inductive DiscardCause where
  | acted
  | overflow
  | undersized
  | destinationMismatch
  | sequenceMismatch
  | headerChecksum
  | payloadChecksum
  | duplicate
  deriving DecidableEq, Repr

/-- The `Frame` record, seven fields (R22). -/
structure Frame where
  source : Byte
  destination : Byte
  sequenceNumber : Byte
  payload : List Byte
  headerChecksum : Byte
  payloadChecksum : Byte
  isAcknowledgment : Bool
  deriving DecidableEq, Repr

/-- A send descriptor, the entry of `outq` (R41, R113). -/
structure SendDesc where
  destination : Byte
  payload : List Byte
  deriving DecidableEq, Repr

/-- The content of `pendingAck` (R30). -/
structure PendingAck where
  destination : Byte
  sequence : Byte
  deriving DecidableEq, Repr

/-- Why a code of R101 to R125 is refused by the decoder. -/
inductive DecodeError where
  /-- level code `11`, never produced (R101) -/
  | levelReserved
  /-- answer code 4 to 7, never produced, or `TooLong` as the answer to `RECV` (R112) -/
  | answerReserved
  /-- `tx_state` code `101` to `111`, never occurs (R115) -/
  | txStateReserved
  /-- an interval pattern that is not `01dddddddd` (R103) -/
  | notSlot
  /-- a pair whose first byte is not the escape, or that the transmitter never produces (R105) -/
  | notPair
  /-- the all-zero request vector, "no request" (R111) -/
  | noRequest
  /-- a word of a length no row of the table has -/
  | noRow
  deriving DecidableEq, Repr

/-- The operations, one constructor per row of spec/opcode_table.json, in the table's order. -/
inductive Instr where
  /-- `SLOT`: the line form of byte `b` (R103, R181) -/
  | slot (b : Byte)
  /-- `LVL_NEUTRAL` (R101) -/
  | lvlNeutral
  /-- `LVL_HIGH` (R101) -/
  | lvlHigh
  /-- `LVL_LOW` (R101) -/
  | lvlLow
  /-- `SENTINEL`: an unescaped `0x7E` received (R104, R162) -/
  | sentinel
  /-- `ESCAPE`: an unescaped `0x7D` received (R104, R162) -/
  | escape
  /-- `LITERAL`: a data byte received (R104, R162) -/
  | literal (b : Byte)
  /-- `ESC_SENTINEL`: the stuffed form of data byte `0x7E` (R105, R160) -/
  | escSentinel
  /-- `ESC_ESCAPE`: the stuffed form of data byte `0x7D` (R105, R160) -/
  | escEscape
  /-- `ESC_ANY`: `0x7D` then `b`, received (R119, R162) -/
  | escAny (b : Byte)
  /-- `DATA`: a unit taken as a data-frame candidate (R107, R245) -/
  | data (source destination sequenceNumber headerChecksum payloadChecksum : Byte) (payload : List Byte)
  /-- `ACK`: a unit taken as the awaited acknowledgment (R108, R244) -/
  | ack (source destination sequenceNumber headerChecksum payloadChecksum : Byte)
  /-- `SEND` with `h_dst` and `h_payload[0 .. h_len-1]` (R111, R261) -/
  | send (dst : Byte) (payload : List Byte)
  /-- `RECV` (R262) -/
  | recv
  /-- `SHUTDOWN` (R263) -/
  | shutdown
  /-- `RESET` (R264) -/
  | reset
  /-- `OK`, the answer to `call` (R112) -/
  | ok (call : HostCall)
  /-- `WouldBlock`, the answer to `call` (R112, R287) -/
  | wouldBlock (call : HostCall)
  /-- `Cancelled`, the answer to `call` (R112, R287) -/
  | cancelled (call : HostCall)
  /-- `TooLong`, an answer to `SEND` alone (R112, R287) -/
  | tooLong
  /-- `TXST_Idle`: TXP's step at code `000` (R115, R214) -/
  | txstIdle
  /-- `TXST_Sending`: TXP's step at code `001` (R115, R182) -/
  | txstSending
  /-- `TXST_AwaitingAck`: TXP's step at code `010` (R115, R217) -/
  | txstAwaitingAck
  /-- `TXST_Failed`: TXP's step at code `011` (R115, R220) -/
  | txstFailed
  /-- `TXST_Halted`: TXP's step at code `100` (R115, R221) -/
  | txstHalted
  /-- `RXST_Hunt`: RXP's step at code `00` (R116, R187) -/
  | rxstHunt
  /-- `RXST_Data`: RXP's step at code `01` (R116, R189) -/
  | rxstData
  /-- `RXST_Deliver`: RXP's step at code `10` (R116, R247) -/
  | rxstDeliver
  /-- `RXST_Halted`: RXP's step at code `11` (R116, R250) -/
  | rxstHalted
  /-- `DC_None` (R282) -/
  | dcNone
  /-- `DC_Overflow` (R242, R282) -/
  | dcOverflow
  /-- `DC_Undersized` (R243, R282) -/
  | dcUndersized
  /-- `DC_DestinationMismatch` (R248, R282) -/
  | dcDestinationMismatch
  /-- `DC_SequenceMismatch` (R248, R282) -/
  | dcSequenceMismatch
  /-- `DC_HeaderChecksum` (R248, R282) -/
  | dcHeaderChecksum
  /-- `DC_PayloadChecksum` (R248, R282) -/
  | dcPayloadChecksum
  /-- `DC_Duplicate` (R249, R282) -/
  | dcDuplicate
  /-- `CHECKSUM` of `buf` (R140) -/
  | checksum (buf : List Byte)
  /-- `ENCODE` of `f` (R142) -/
  | encode (f : Frame)
  /-- `DECODE` of `u` (R143) -/
  | decode (u : List Byte)
  /-- `VERIFY` of `f` against the expected destination and sequence (R144) -/
  | verify (f : Frame) (expDst expSeq : Byte)
  /-- `FINALIZE` of descriptor `d` under number `n` (R145) -/
  | finalize (d : SendDesc) (n : Byte)
  /-- `ACKBUILD` of a pending acknowledgment (R146) -/
  | ackbuild (p : PendingAck)
  /-- `STUFF` of `buf` (R160) -/
  | stuff (buf : List Byte)
  /-- `WIRE` of `f` (R161) -/
  | wire (f : Frame)
  /-- `TX_HALTED`; `x` is the value of `shutdown`, either (R221) -/
  | txHalted (x : Bool)
  /-- `TX_HALT`; `st` is the state code it is selected with (R211) -/
  | txHalt (st : TxState)
  /-- `TX_IDLE_ACK` (R212) -/
  | txIdleAck
  /-- `TX_IDLE_DATA` (R213) -/
  | txIdleData
  /-- `TX_IDLE_WAIT` (R214) -/
  | txIdleWait
  /-- `TXSEQ` (R182) -/
  | txseq
  /-- `TX_SENT` (R183, R215) -/
  | txSent
  /-- `TX_ACKED` (R216) -/
  | txAcked
  /-- `TX_WAIT` (R217) -/
  | txWait
  /-- `TX_RETRANSMIT` (R217, R218) -/
  | txRetransmit
  /-- `TX_LIMIT` (R217, R219) -/
  | txLimit
  /-- `TX_FAILED` (R220) -/
  | txFailed
  /-- `RX_HALTED`; `x` is the value of `shutdown`, either (R250) -/
  | rxHalted (x : Bool)
  /-- `RX_HALT`; `st` is the state code it is selected with (R250) -/
  | rxHalt (st : RxState)
  /-- `RX_DELIVER` (R247) -/
  | rxDeliver
  /-- `RXHUNT` (R187) -/
  | rxhunt
  /-- `RXDATA` (R189) -/
  | rxdata
  /-- `UNSTUFF` of a completed byte (R162) -/
  | unstuff (b : Byte)
  /-- `STORE` of a data byte (R163) -/
  | store (b : Byte)
  /-- `UNITEND` (R164) -/
  | unitend
  /-- `UNIT` with the overflow mark it is handed (R241) -/
  | unit (ovf : Bool)
  /-- `RX_OVERFLOW`, run where the mark is 1 (R242) -/
  | rxOverflow
  /-- `RX_UNDERSIZED`, run where the mark is 0, as are the four below (R243) -/
  | rxUndersized
  /-- `RX_ACKMATCH` (R244) -/
  | rxAckmatch
  /-- `RX_ACCEPT` (R246) -/
  | rxAccept
  /-- `RX_INVALID` (R248) -/
  | rxInvalid
  /-- `RX_DUPLICATE` (R249) -/
  | rxDuplicate
  /-- `DELIVERYFAILED`, the report raised by `TX_FAILED` (R265) -/
  | deliveryfailed
  deriving DecidableEq, Repr

end Sys2Proof
end

