-- ==== Sys2Proof/WellFormed.lean ====
section
/-! DEFINITION. Which terms of `Instr` stand for an operation of the spec: the checks its rules put on
operands. -/

namespace Sys2Proof

/-- A payload has 0 to `MAX_PAYLOAD` bytes (R22, R107). -/
def payloadFits (c : Config) (p : List Byte) : Bool :=
  decide (p.length ≤ c.maxPayload)

/-- A frame's payload fits, and an acknowledgment has none (R22, R108). -/
def Frame.fits (c : Config) (f : Frame) : Bool :=
  payloadFits c f.payload && (!f.isAcknowledgment || f.payload.isEmpty)

/-- The operand checks. `SEND` takes a payload of any length: a longer one is a legal request that is
answered `TooLong` (R261). -/
def Instr.WellFormed (c : Config) : Instr → Bool
  | .data _ _ _ _ _ payload => payloadFits c payload
  | .decode u => decide (headerBytes ≤ u.length)
  | .encode f | .wire f => f.fits c
  | .verify f _ _ => payloadFits c f.payload
  | .finalize d _ => payloadFits c d.payload
  | .txHalt st => decide (st ≠ .halted)
  | .rxHalt st => decide (st ≠ .halted)
  | .slot _ | .lvlNeutral | .lvlHigh | .lvlLow | .sentinel | .escape | .literal _ | .escSentinel
  | .escEscape | .escAny _ | .ack _ _ _ _ _ | .send _ _ | .recv | .shutdown | .reset | .ok _
  | .wouldBlock _ | .cancelled _ | .tooLong | .txstIdle | .txstSending | .txstAwaitingAck
  | .txstFailed | .txstHalted | .rxstHunt | .rxstData | .rxstDeliver | .rxstHalted | .dcNone
  | .dcOverflow | .dcUndersized | .dcDestinationMismatch | .dcSequenceMismatch | .dcHeaderChecksum
  | .dcPayloadChecksum | .dcDuplicate | .checksum _ | .ackbuild _ | .stuff _ | .txHalted _
  | .txIdleAck | .txIdleData | .txIdleWait | .txseq | .txSent | .txAcked | .txWait | .txRetransmit
  | .txLimit | .txFailed | .rxHalted _ | .rxDeliver | .rxhunt | .rxdata | .unstuff _ | .store _
  | .unitend | .unit _ | .rxOverflow | .rxUndersized | .rxAckmatch | .rxAccept | .rxInvalid
  | .rxDuplicate | .deliveryfailed => true

end Sys2Proof
end

