-- ==== Sys2Proof/Decode.lean ====
section
/-! DEFINITION. The codes of spec/opcode_table.json (R101 to R116, R125), the decoder that tells an
operation from its code, and the encoder. Where several rows share a code, the row's `when` decides:
the decoder takes those conditions as `Cond`. Rows whose encoding is "-" have no code. -/

namespace Sys2Proof

/-- The bits of one row of the table, under the row's format; operands that travel beside the bits
(a payload, the `SEND` operands, the answered request) stand beside them. -/
inductive Code where
  /-- ten intervals in time order, the first one the highest bit (R103) -/
  | slot (w : BitVec 10)
  /-- a `line_out` code (R101) -/
  | lvl (w : BitVec 2)
  /-- a received wire byte (R104) -/
  | wbyte (w : Byte)
  /-- a stuffed pair the transmitter produces, first byte in the high half (R105) -/
  | wpairTx (w : BitVec 16)
  /-- a pair as received (R119) -/
  | wpairRx (w : BitVec 16)
  /-- a unit: 40 header bits, byte 0 highest, and the payload (R106) -/
  | hdr (w : BitVec 40) (payload : List Byte)
  /-- a request vector with the `SEND` operands (R111) -/
  | hreq (w : BitVec 4) (dst : Byte) (payload : List Byte)
  /-- the answer code to `call` (R112) -/
  | hrsp (call : HostCall) (w : BitVec 3)
  /-- a `tx_state` code (R115) -/
  | txst (w : BitVec 3)
  /-- an `rx_state` code (R116) -/
  | rxst (w : BitVec 2)
  /-- a discard-cause code (R282) -/
  | dcause (w : BitVec 3)
  /-- `shutdown, tx_state[2:0]` (R125) -/
  | txstep (w : BitVec 4)
  /-- `shutdown, rx_state[1:0]` (R125) -/
  | rxstep (w : BitVec 3)
  deriving DecidableEq, Repr

/-- The conditions of the rows' `when` column that rows with one code differ in. -/
structure Cond where
  /-- `rx_esc = 1` (R104) -/
  rxEsc : Bool
  /-- the unit matches the outstanding frame as its acknowledgment (R241) -/
  ackMatched : Bool
  /-- `pendingAck` is not `none` (R210) -/
  ackPending : Bool
  /-- `outq` is empty (R210) -/
  outqEmpty : Bool
  /-- `tx_widx = len(wire(cur))` (R182) -/
  wireDone : Bool
  /-- `ack_flag = 1` (R210) -/
  ackFlag : Bool
  /-- the timer reaches `ACK_TIMEOUT_TICKS` in this step (R217) -/
  timerExpires : Bool
  /-- the new retry count is within `MAX_ATTEMPTS` (R217) -/
  retriesLeft : Bool
  deriving DecidableEq, Repr

/-- No condition holds and nothing waits: the conditions right after reset. -/
def Cond.quiet : Cond where
  rxEsc := false
  ackMatched := false
  ackPending := false
  outqEmpty := true
  wireDone := false
  ackFlag := false
  timerExpires := false
  retriesLeft := true

/-! ### Code tables -/

/-- R101. -/
def Level.code : Level → BitVec 2
  | .neutral => 0
  | .high => 1
  | .low => 2

/-- R112. -/
def Rsp.code : Rsp → BitVec 3
  | .ok => 0
  | .wouldBlock => 1
  | .cancelled => 2
  | .tooLong => 3

/-- R115. -/
def TxState.code : TxState → BitVec 3
  | .idle => 0
  | .sending => 1
  | .awaitingAck => 2
  | .failed => 3
  | .halted => 4

/-- R115, read back; codes 5 to 7 never occur. -/
def TxState.ofCode (w : BitVec 3) : Option TxState :=
  if w = 0 then some .idle
  else if w = 1 then some .sending
  else if w = 2 then some .awaitingAck
  else if w = 3 then some .failed
  else if w = 4 then some .halted
  else none

/-- R116. -/
def RxState.code : RxState → BitVec 2
  | .hunt => 0
  | .data => 1
  | .deliver => 2
  | .halted => 3

/-- R116, read back. -/
def RxState.ofCode (w : BitVec 2) : RxState :=
  if w = 0 then .hunt else if w = 1 then .data else if w = 2 then .deliver else .halted

/-- R282. -/
def DiscardCause.code : DiscardCause → BitVec 3
  | .acted => 0
  | .overflow => 1
  | .undersized => 2
  | .destinationMismatch => 3
  | .sequenceMismatch => 4
  | .headerChecksum => 5
  | .payloadChecksum => 6
  | .duplicate => 7

/-! ### The decoder -/

/-- Format `SLOT`: `01dddddddd` (R103). -/
def decodeSlot (w : BitVec 10) : Except DecodeError Instr :=
  if w.extractLsb' 8 2 = 1 then .ok (.slot (w.extractLsb' 0 8)) else .error .notSlot

/-- Format `LVL`; `11` is never produced (R101). -/
def decodeLvl (w : BitVec 2) : Except DecodeError Instr :=
  if w = 0 then .ok .lvlNeutral
  else if w = 1 then .ok .lvlHigh
  else if w = 2 then .ok .lvlLow
  else .error .levelReserved

/-- Format `WBYTE`, the classes in the order of R104. -/
def decodeWbyte (rxEsc : Bool) (b : Byte) : Instr :=
  if rxEsc then .literal b
  else if b = escapeByte then .escape
  else if b = sentinelByte then .sentinel
  else .literal b

/-- Format `WPAIR`, transmit side (R105). -/
def decodePairTx (w : BitVec 16) : Except DecodeError Instr :=
  if w = 0x7D7E then .ok .escSentinel
  else if w = 0x7D7D then .ok .escEscape
  else .error .notPair

/-- Format `WPAIR`, receive side: `0x7D` and any byte (R119). -/
def decodePairRx (w : BitVec 16) : Except DecodeError Instr :=
  if w.extractLsb' 8 8 = escapeByte then .ok (.escAny (w.extractLsb' 0 8)) else .error .notPair

/-- Formats `DATA` and `ACK`: the same bits, told apart by the acknowledgment match (R106, R110). -/
def decodeHdr (ackMatched : Bool) (w : BitVec 40) (payload : List Byte) : Instr :=
  let s := w.extractLsb' 32 8
  let t := w.extractLsb' 24 8
  let n := w.extractLsb' 16 8
  let h := w.extractLsb' 8 8
  let p := w.extractLsb' 0 8
  if ackMatched && payload.isEmpty then .ack s t n h p else .data s t n h p payload

/-- Format `HREQ`: of several requests the one handled first, in the order `RESET`, `SHUTDOWN`, `SEND`,
`RECV` (R111, R269). -/
def decodeHreq (w : BitVec 4) (dst : Byte) (payload : List Byte) : Except DecodeError Instr :=
  if w.getLsbD 3 then .ok .reset
  else if w.getLsbD 2 then .ok .shutdown
  else if w.getLsbD 0 then .ok (.send dst payload)
  else if w.getLsbD 1 then .ok .recv
  else .error .noRequest

/-- Format `HRSP`; codes 4 to 7 are never produced, `TooLong` answers `SEND` alone (R112). -/
def decodeHrsp (call : HostCall) (w : BitVec 3) : Except DecodeError Instr :=
  if w = 0 then .ok (.ok call)
  else if w = 1 then .ok (.wouldBlock call)
  else if w = 2 then .ok (.cancelled call)
  else if w = 3 ∧ call = .send then .ok .tooLong
  else .error .answerReserved

/-- Format `TXST` (R115). -/
def decodeTxst (w : BitVec 3) : Except DecodeError Instr :=
  match TxState.ofCode w with
  | some .idle => .ok .txstIdle
  | some .sending => .ok .txstSending
  | some .awaitingAck => .ok .txstAwaitingAck
  | some .failed => .ok .txstFailed
  | some .halted => .ok .txstHalted
  | none => .error .txStateReserved

/-- Format `RXST` (R116). -/
def decodeRxst (w : BitVec 2) : Instr :=
  match RxState.ofCode w with
  | .hunt => .rxstHunt
  | .data => .rxstData
  | .deliver => .rxstDeliver
  | .halted => .rxstHalted

/-- Format `DCAUSE` (R282). -/
def decodeDcause (w : BitVec 3) : Instr :=
  if w = 0 then .dcNone
  else if w = 1 then .dcOverflow
  else if w = 2 then .dcUndersized
  else if w = 3 then .dcDestinationMismatch
  else if w = 4 then .dcSequenceMismatch
  else if w = 5 then .dcHeaderChecksum
  else if w = 6 then .dcPayloadChecksum
  else .dcDuplicate

/-- Format `TXSTEP`: the rows in the order listed, `x100` before `1sss`, then the state's rows by their
`when` (R125, R210). -/
def decodeTxstep (c : Cond) (w : BitVec 4) : Except DecodeError Instr :=
  match TxState.ofCode (w.extractLsb' 0 3) with
  | none => .error .txStateReserved
  | some .halted => .ok (.txHalted (w.getLsbD 3))
  | some st =>
    if w.getLsbD 3 then .ok (.txHalt st)
    else
      match st with
      | .idle =>
        if c.ackPending then .ok .txIdleAck
        else if c.outqEmpty then .ok .txIdleWait
        else .ok .txIdleData
      | .sending => if c.wireDone then .ok .txSent else .ok .txseq
      | .awaitingAck =>
        if c.ackFlag then .ok .txAcked
        else if !c.timerExpires then .ok .txWait
        else if c.retriesLeft then .ok .txRetransmit
        else .ok .txLimit
      | .failed => .ok .txFailed
      | .halted => .ok (.txHalted false)

/-- Format `RXSTEP`: `x11` before `1ss`, then the state's row (R125, R240). -/
def decodeRxstep (w : BitVec 3) : Instr :=
  match RxState.ofCode (w.extractLsb' 0 2) with
  | .halted => .rxHalted (w.getLsbD 2)
  | st =>
    if w.getLsbD 2 then .rxHalt st
    else
      match st with
      | .deliver => .rxDeliver
      | .hunt => .rxhunt
      | .data => .rxdata
      | .halted => .rxHalted false

/-- The decoder: total, refusing by name the codes no row has. -/
def decode (c : Cond) : Code → Except DecodeError Instr
  | .slot w => decodeSlot w
  | .lvl w => decodeLvl w
  | .wbyte w => .ok (decodeWbyte c.rxEsc w)
  | .wpairTx w => decodePairTx w
  | .wpairRx w => decodePairRx w
  | .hdr w payload => .ok (decodeHdr c.ackMatched w payload)
  | .hreq w dst payload => decodeHreq w dst payload
  | .hrsp call w => decodeHrsp call w
  | .txst w => decodeTxst w
  | .rxst w => .ok (decodeRxst w)
  | .dcause w => .ok (decodeDcause w)
  | .txstep w => decodeTxstep c w
  | .rxstep w => .ok (decodeRxstep w)

/-- The code a bare table word stands for (log entry 7). The table gives several formats the same small
codes; here a word of one byte is a request if exactly one request bit is set, an answer if it is 0 or
3, a cause if it is 5, 6 or 7, and else a wire byte; a word of two bytes is a stuffed pair, or a slot if its
first six bits are 0; a word of five bytes is a unit without payload. -/
def codeOfTableWord (nbits w : Nat) : Option Code :=
  if nbits = 40 then some (.hdr (BitVec.ofNat 40 w) [])
  else if nbits = 16 then
    if w = 0x7D7E ∨ w = 0x7D7D then some (.wpairTx (BitVec.ofNat 16 w))
    else if w / 256 = 0x7D then some (.wpairRx (BitVec.ofNat 16 w))
    else if w < 1024 then some (.slot (BitVec.ofNat 10 w))
    else none
  else if nbits ≤ 8 then
    if w = 1 ∨ w = 2 ∨ w = 4 ∨ w = 8 then some (.hreq (BitVec.ofNat 4 w) 0 [])
    else if w = 0 ∨ w = 3 then some (.hrsp .send (BitVec.ofNat 3 w))
    else if w = 5 ∨ w = 6 ∨ w = 7 then some (.dcause (BitVec.ofNat 3 w))
    else if w < 256 then some (.wbyte (BitVec.ofNat 8 w))
    else none
  else none

/-- The instruction the decoder reads from a bare table word, in the conditions right after reset. -/
def decodeTableWord (nbits w : Nat) : Option Instr :=
  match codeOfTableWord nbits w with
  | none => none
  | some code =>
    match decode Cond.quiet code with
    | .ok i => some i
    | .error _ => none

/-! ### The encoder -/

/-- The code of an instruction; none where the table's encoding is "-" (formats `FN`, `RXSUB`, `EVENT`).
Bits a request ignores are 0. -/
def encode : Instr → Option Code
  | .slot b => some (.slot ((1 : BitVec 2) ++ b))
  | .lvlNeutral => some (.lvl Level.neutral.code)
  | .lvlHigh => some (.lvl Level.high.code)
  | .lvlLow => some (.lvl Level.low.code)
  | .sentinel => some (.wbyte sentinelByte)
  | .escape => some (.wbyte escapeByte)
  | .literal b => some (.wbyte b)
  | .escSentinel => some (.wpairTx (escapeByte ++ sentinelByte))
  | .escEscape => some (.wpairTx (escapeByte ++ escapeByte))
  | .escAny b => some (.wpairRx (escapeByte ++ b))
  | .data s t n h p payload => some (.hdr (s ++ t ++ n ++ h ++ p) payload)
  | .ack s t n h p => some (.hdr (s ++ t ++ n ++ h ++ p) [])
  | .send dst payload => some (.hreq 1 dst payload)
  | .recv => some (.hreq 2 0 [])
  | .shutdown => some (.hreq 4 0 [])
  | .reset => some (.hreq 8 0 [])
  | .ok call => some (.hrsp call Rsp.ok.code)
  | .wouldBlock call => some (.hrsp call Rsp.wouldBlock.code)
  | .cancelled call => some (.hrsp call Rsp.cancelled.code)
  | .tooLong => some (.hrsp .send Rsp.tooLong.code)
  | .txstIdle => some (.txst TxState.idle.code)
  | .txstSending => some (.txst TxState.sending.code)
  | .txstAwaitingAck => some (.txst TxState.awaitingAck.code)
  | .txstFailed => some (.txst TxState.failed.code)
  | .txstHalted => some (.txst TxState.halted.code)
  | .rxstHunt => some (.rxst RxState.hunt.code)
  | .rxstData => some (.rxst RxState.data.code)
  | .rxstDeliver => some (.rxst RxState.deliver.code)
  | .rxstHalted => some (.rxst RxState.halted.code)
  | .dcNone => some (.dcause DiscardCause.acted.code)
  | .dcOverflow => some (.dcause DiscardCause.overflow.code)
  | .dcUndersized => some (.dcause DiscardCause.undersized.code)
  | .dcDestinationMismatch => some (.dcause DiscardCause.destinationMismatch.code)
  | .dcSequenceMismatch => some (.dcause DiscardCause.sequenceMismatch.code)
  | .dcHeaderChecksum => some (.dcause DiscardCause.headerChecksum.code)
  | .dcPayloadChecksum => some (.dcause DiscardCause.payloadChecksum.code)
  | .dcDuplicate => some (.dcause DiscardCause.duplicate.code)
  | .txHalted x => some (.txstep (BitVec.ofBool x ++ TxState.halted.code))
  | .txHalt st => some (.txstep ((1 : BitVec 1) ++ st.code))
  | .txIdleAck | .txIdleData | .txIdleWait => some (.txstep ((0 : BitVec 1) ++ TxState.idle.code))
  | .txseq | .txSent => some (.txstep ((0 : BitVec 1) ++ TxState.sending.code))
  | .txAcked | .txWait | .txRetransmit | .txLimit =>
    some (.txstep ((0 : BitVec 1) ++ TxState.awaitingAck.code))
  | .txFailed => some (.txstep ((0 : BitVec 1) ++ TxState.failed.code))
  | .rxHalted x => some (.rxstep (BitVec.ofBool x ++ RxState.halted.code))
  | .rxHalt st => some (.rxstep ((1 : BitVec 1) ++ st.code))
  | .rxDeliver => some (.rxstep ((0 : BitVec 1) ++ RxState.deliver.code))
  | .rxhunt => some (.rxstep ((0 : BitVec 1) ++ RxState.hunt.code))
  | .rxdata => some (.rxstep ((0 : BitVec 1) ++ RxState.data.code))
  | .checksum _ | .encode _ | .decode _ | .verify _ _ _ | .finalize _ _ | .ackbuild _ | .stuff _
  | .wire _ | .unstuff _ | .store _ | .unitend | .unit _ | .rxOverflow | .rxUndersized | .rxAckmatch
  | .rxAccept | .rxInvalid | .rxDuplicate | .deliveryfailed => none

/-- The conditions of the row's `when` under which its code stands for `i` (spec/opcode_table.json). -/
def Cond.selects (c : Cond) : Instr → Bool
  | .sentinel | .escape => !c.rxEsc
  | .literal b => c.rxEsc || (decide (b ≠ escapeByte) && decide (b ≠ sentinelByte))
  | .data _ _ _ _ _ payload => !(c.ackMatched && payload.isEmpty)
  | .ack _ _ _ _ _ => c.ackMatched
  | .txIdleAck => c.ackPending
  | .txIdleData => !c.ackPending && !c.outqEmpty
  | .txIdleWait => !c.ackPending && c.outqEmpty
  | .txseq => !c.wireDone
  | .txSent => c.wireDone
  | .txAcked => c.ackFlag
  | .txWait => !c.ackFlag && !c.timerExpires
  | .txRetransmit => !c.ackFlag && c.timerExpires && c.retriesLeft
  | .txLimit => !c.ackFlag && c.timerExpires && !c.retriesLeft
  | .slot _ | .lvlNeutral | .lvlHigh | .lvlLow | .escSentinel | .escEscape | .escAny _ | .send _ _
  | .recv | .shutdown | .reset | .ok _ | .wouldBlock _ | .cancelled _ | .tooLong | .txstIdle
  | .txstSending | .txstAwaitingAck | .txstFailed | .txstHalted | .rxstHunt | .rxstData
  | .rxstDeliver | .rxstHalted | .dcNone | .dcOverflow | .dcUndersized | .dcDestinationMismatch
  | .dcSequenceMismatch | .dcHeaderChecksum | .dcPayloadChecksum | .dcDuplicate | .checksum _
  | .encode _ | .decode _ | .verify _ _ _ | .finalize _ _ | .ackbuild _ | .stuff _ | .wire _
  | .txHalted _ | .txHalt _ | .txFailed | .rxHalted _ | .rxHalt _ | .rxDeliver | .rxhunt | .rxdata
  | .unstuff _ | .store _ | .unitend | .unit _ | .rxOverflow | .rxUndersized | .rxAckmatch
  | .rxAccept | .rxInvalid | .rxDuplicate | .deliveryfailed => true

end Sys2Proof
end

