-- ==== Sys2Proof/Machine/State.lean ====
section
/-! DEFINITION. The state of one endpoint (R20 to R45), its ports (R260, R267), the model's own fields
(whose turn it is, the inputs to come), the reasons a step can stop, and the state after reset (R47). -/

namespace Sys2Proof.Machine

/-- A byte-addressed store in canonical form: addresses strictly rising, no cell holding `0`, the byte
an unlisted address reads as (log entry 2). -/
structure Memory where
  cells : List Host.Cell
  deriving DecidableEq, Repr

/-- The result of `RECV` (R114, R262): zero in a tick without one (IU12). -/
structure Recvd where
  src : Byte
  dst : Byte
  seq : Byte
  hcs : Byte
  pcs : Byte
  len : Nat
  payload : List Byte
  deriving DecidableEq, Repr

/-- The value a pure function of the codec or the framer returned (log entry 8). -/
inductive FnValue where
  | none
  | byte (b : Byte)
  | bytes (l : List Byte)
  | frame (f : Frame)
  | bool (b : Bool)
  deriving DecidableEq, Repr

/-- The outputs of the current tick (R260, R265, R282); all at rest when a tick begins (IU12). -/
structure Outputs where
  /-- `h_send_rsp`; `none` where the tick holds no `SEND` -/
  sendRsp : Option Rsp
  /-- `h_recv_rsp`; `none` where the tick holds no `RECV` -/
  recvRsp : Option Rsp
  /-- `r_src`, `r_dst`, `r_seq`, `r_hcs`, `r_pcs`, `r_len`, `r_payload` -/
  recvd : Recvd
  /-- `ev_fail` -/
  evFail : Bool
  /-- `ev_fail_dst` -/
  evFailDst : Byte
  /-- `ev_fail_seq` -/
  evFailSeq : Byte
  /-- the label of the unit handled in this tick, if one was (R282) -/
  cause : Option DiscardCause
  /-- the value of the pure function evaluated last (log entry 8) -/
  value : FnValue
  deriving DecidableEq, Repr

/-- Outputs at rest (IU12). -/
def Outputs.rest : Outputs where
  sendRsp := Option.none
  recvRsp := Option.none
  recvd := ⟨0, 0, 0, 0, 0, 0, []⟩
  evFail := false
  evFailDst := 0
  evFailSeq := 0
  cause := Option.none
  value := .none

/-- The status outputs (R267), with the state codes of R115 and R116. -/
structure Status where
  txState : BitVec 3
  rxState : BitVec 2
  framesSent : Byte
  framesReceived : Byte
  retry : Nat
  failSticky : Bool
  shutdown : Bool
  outqCount : Nat
  inqCount : Nat
  deriving DecidableEq, Repr

/-- Whose step comes next within a tick (R80). -/
inductive Turn where
  | line
  | host
  | rxp
  | txp
  deriving DecidableEq, Repr

/-- A code presented for single execution, `nbits` wide (log entry 7). -/
structure OpWord where
  nbits : Nat
  word : Nat
  deriving DecidableEq, Repr

/-- Reasons the machine stops with a fault. None is a fault of the hardware, which has none (R281,
R295); each marks a state that no run reaches, where the rules name no value. All are safe: the model
stops where nothing is stated. -/
inductive Fault where
  /-- `rx_buf` was addressed at or past `RX_BUF_BYTES`, which does not exist (R70). Raised by the
  operations that read the held unit when `rx_len` exceeds the capacity. Safe. -/
  | rxBufRange
  /-- TXP works on `cur` and `cur` is `none` (R21). Raised by TXP's step in `Sending` and `Failed` and by
  `DELIVERYFAILED`. Safe. -/
  | noFrame
  /-- `DECODE` was applied to fewer than 5 bytes, which R143 excludes. Raised by `DECODE` and
  by RXP's step in `Deliver`. Safe. -/
  | shortUnit
  /-- TXP is to send `w[tx_widx]` and `tx_widx` lies past the wire bytes `w`, outside the range of R26.
  Raised by TXP's step in `Sending`. Safe. -/
  | wireRange
  deriving DecidableEq, Repr

/-- Reasons the model gives no meaning. -/
inductive Refusal where
  /-- Raised by `exec` for an instruction without a meaning; no arm answers it. Safe. -/
  | notModelled (mnemonic : String)
  /-- A code that no row has was to be executed. Raised by `step`. Safe. -/
  | undecodable (e : DecodeError)
  /-- The configuration breaks a constraint of R10 and is refused (IU6). Raised by `step` and
  `State.boot`. Safe. -/
  | illegalConfig
  deriving DecidableEq, Repr

/-- One endpoint. -/
structure State where
  /-- the static configuration (R39), carried because a step has no other argument; no step changes
  it (log entry 1) -/
  cfg : Config
  /-- `cur` (R21) -/
  cur : Option Frame
  /-- `rx_buf` (R23) -/
  rxBuf : Memory
  /-- `rx_len` (R23) -/
  rxLen : Nat
  /-- `rx_shift` (R24) -/
  rxShift : Byte
  /-- `tx_state` (R25) -/
  txState : TxState
  /-- `tx_widx` (R26) -/
  txWidx : Nat
  /-- `tx_phase` (R26) -/
  txPhase : TxPhase
  /-- `tx_cnt` (R26) -/
  txCnt : Nat
  /-- `tx_bit` (R26) -/
  txBit : Nat
  /-- `rx_state` (R27) -/
  rxState : RxState
  /-- `rx_low_cnt` (R28) -/
  rxLowCnt : Nat
  /-- `rx_cnt` (R28) -/
  rxCnt : Nat
  /-- `rx_bit` (R28) -/
  rxBit : Nat
  /-- `ack_flag` (R29) -/
  ackFlag : Bool
  /-- `pendingAck` (R30) -/
  pendingAck : Option PendingAck
  /-- `cur_is_ack` (R31) -/
  curIsAck : Bool
  /-- `rx_esc` (R32) -/
  rxEsc : Bool
  /-- `rx_ovf` (R32) -/
  rxOvf : Bool
  /-- `shutdown` (R33) -/
  shutdown : Bool
  /-- `fail_sticky` (R34) -/
  failSticky : Bool
  /-- `framesSent` (R35) -/
  framesSent : Byte
  /-- `framesReceived` (R36) -/
  framesReceived : Byte
  /-- `retry`, `RETRY_BITS` wide (R37) -/
  retry : Nat
  /-- `ack_timer` (R38) -/
  ackTimer : Nat
  /-- `outq`, oldest entry first (R40, R41) -/
  outq : List SendDesc
  /-- `inq`, oldest entry first (R40, R41) -/
  inq : List Frame
  /-- `line_out` (R42) -/
  lineOut : Level
  /-- port `line_in`, the voltage of this tick (R260, R301) -/
  lineIn : Int
  /-- port `h_req`: the requests of this tick not handled yet (R111, R260) -/
  hReq : BitVec 4
  /-- port `h_dst` (R260) -/
  hDst : Byte
  /-- port `h_payload`, of length `h_len` (R260) -/
  hPayload : List Byte
  /-- the output ports of this tick (R260) -/
  out : Outputs
  /-- the status outputs, latched at the start of the tick (R267) -/
  status : Status
  /-- model's own: the agent that steps next (R80) -/
  turn : Turn
  /-- model's own: the number of ticks begun -/
  tickNo : Nat
  /-- model's own: the voltages the LINE presents in the ticks to come; `Config.lineChoice` after them -/
  lineFeed : List Int
  /-- model's own: the requests of the ticks to come; `Config.hostChoice` after them -/
  hostFeed : List HostIn
  /-- model's own: a code presented for single execution before all else (log entry 7) -/
  opPort : Option OpWord
  deriving DecidableEq, Repr

/-- The machine right after reset under configuration `c`: R47 for the registers, the ports at rest, the
LINE's turn of the next tick (R320). -/
def State.resetWith (c : Config) : State where
  cfg := c
  cur := none
  rxBuf := ⟨[]⟩
  rxLen := 0
  rxShift := 0
  txState := .idle
  txWidx := 0
  txPhase := .guard
  txCnt := 0
  txBit := 0
  rxState := .hunt
  rxLowCnt := 0
  rxCnt := 0
  rxBit := 0
  ackFlag := false
  pendingAck := none
  curIsAck := false
  rxEsc := false
  rxOvf := false
  shutdown := false
  failSticky := false
  framesSent := 0
  framesReceived := 0
  retry := 0
  ackTimer := 0
  outq := []
  inq := []
  lineOut := .neutral
  lineIn := 0
  hReq := 0
  hDst := 0
  hPayload := []
  out := Outputs.rest
  status := ⟨0, 0, 0, 0, 0, false, false, 0, 0⟩
  turn := .line
  tickNo := 0
  lineFeed := []
  hostFeed := []
  opPort := none

/-- The machine right after reset at the defaults (R8, R9, R47). -/
def State.reset : State := State.resetWith Config.default

/-- The constructor of an instance, which rejects a configuration outside R10 (IU6). -/
def State.boot (c : Config) : Host.Outcome State Fault Refusal :=
  if c.legal then .next (State.resetWith c) else .refused .illegalConfig

end Sys2Proof.Machine
end

