-- ==== Sys2Proof/Machine/Ops.lean ====
section
/-! DEFINITION. The named operations over storage, queues, the line and the ports, and the events: what
the rules' pseudocode primitives do (R12). -/

namespace Sys2Proof.Machine

/-- The answer of a meaning. -/
abbrev Result := Host.Outcome State Fault Refusal

/-- `r`, then `f` on the state it leaves; a stop stays a stop. -/
def andThen (r : Result) (f : State → Result) : Result :=
  match r with
  | .next s => f s
  | .fault e => .fault e
  | .refused e => .refused e

/-- A row's own effect where its selecting condition holds; elsewhere what the dispatch of its agent decides,
which always selects exactly one rule (R104, R210, R240, R241; log entry 10). -/
def orDispatched (cond : Bool) (own dispatched : Result) : Result := if cond then own else dispatched

/-! ### Byte storage (R70, R78) -/

/-- What a byte reads as where no cell lists it: `0`, which no rule observes (IU1; log entry 2). -/
def Memory.unlisted : Byte := 0

/-- The byte at `a` in a list of cells. -/
def readCells : List Host.Cell → Nat → Byte
  | [], _ => Memory.unlisted
  | (a', b) :: rest, a => if a = a' then b else readCells rest a

/-- The cells with `b` at `a`, in canonical form again. -/
def writeCells : List Host.Cell → Nat → Byte → List Host.Cell
  | [], a, b => if b = Memory.unlisted then [] else [(a, b)]
  | (a', b') :: rest, a, b =>
    if a < a' then
      if b = Memory.unlisted then (a', b') :: rest else (a, b) :: (a', b') :: rest
    else if a = a' then
      if b = Memory.unlisted then rest else (a, b) :: rest
    else (a', b') :: writeCells rest a b

/-- Addresses at least `lo`, strictly rising, and no cell holding the unlisted byte. -/
def cellsWf : Nat → List Host.Cell → Bool
  | _, [] => true
  | lo, (a, b) :: rest => decide (lo ≤ a) && decide (b ≠ Memory.unlisted) && cellsWf (a + 1) rest

/-- `MemRead` of one byte (R12). -/
def Memory.read (m : Memory) (a : Nat) : Byte := readCells m.cells a

/-- `MemWrite` of one byte (R12). -/
def Memory.write (m : Memory) (a : Nat) (b : Byte) : Memory := ⟨writeCells m.cells a b⟩

/-- The canonical form. -/
def Memory.wf (m : Memory) : Bool := cellsWf 0 m.cells

/-- No cell lies at or past `n`. -/
def Memory.below (m : Memory) (n : Nat) : Bool := m.cells.all fun c => decide (c.1 < n)

/-- `MemRead` of `n` bytes from `a` on (R12). -/
def Memory.readRun (m : Memory) : Nat → Nat → List Byte
  | _, 0 => []
  | a, n + 1 => m.read a :: m.readRun (a + 1) n

/-- The held unit `rx_buf[0 .. rx_len-1]` (R23, R164); a length past the capacity addresses bytes that
do not exist (R70). -/
def State.heldUnit (s : State) : Option (List Byte) :=
  if s.rxLen ≤ s.cfg.rxBufBytes then some (s.rxBuf.readRun 0 s.rxLen) else none

/-! ### Queues (R40) -/

/-- `enqueue(q, x)`: entries leave in the order they entered. -/
def enqueue {α : Type} (q : List α) (x : α) : List α := q ++ [x]

/-- `full(q)`. -/
def full {α : Type} (c : Config) (q : List α) : Bool := decide (c.queueCap ≤ q.length)

/-- `empty(q)`. -/
def empty {α : Type} (q : List α) : Bool := q.isEmpty

/-! ### The line (R300, R301) -/

/-- `setLevel(ENDPOINT_NAME, l)`, the write `line_out <- l` (R300). -/
def State.setLevel (s : State) (l : Level) : State := { s with lineOut := l }

/-- `getLevel(ENDPOINT_NAME)`, the read of `line_in`, without side effect (R72, R301). -/
def State.getLevel (s : State) : Int := s.lineIn

/-- The voltage behind a level (R8, R9, R300). -/
def voltage (c : Config) : Level → Int
  | .neutral => c.vNeutral
  | .high => c.vHigh
  | .low => c.vLow

/-- The level of a data bit (R184). -/
def levelOfBit (bit : Bool) : Level := if bit then .high else .low

/-! ### Events (R280): discard labels, answers, the report, cancellation -/

/-- `discard(c)`: label the step, change no register (R12, R282). -/
def State.label (s : State) (c : DiscardCause) : State := { s with out := { s.out with cause := some c } }

/-- `h_send_rsp <- r` (R112). -/
def State.answerSend (s : State) (r : Rsp) : State := { s with out := { s.out with sendRsp := some r } }

/-- `h_recv_rsp <- r` (R112). -/
def State.answerRecv (s : State) (r : Rsp) : State := { s with out := { s.out with recvRsp := some r } }

/-- The answer of `call` (R112). -/
def State.answer (s : State) (call : HostCall) (r : Rsp) : State :=
  match call with
  | .send => s.answerSend r
  | .recv => s.answerRecv r

/-- The `r_*` outputs show frame `f` (R114, R262). -/
def State.showFrame (s : State) (f : Frame) : State :=
  { s with out := { s.out with recvd :=
      { src := f.source, dst := f.destination, seq := f.sequenceNumber, hcs := f.headerChecksum,
        pcs := f.payloadChecksum, len := f.payload.length, payload := f.payload } } }

/-- A pure function returns `v` (log entry 8). -/
def State.present (s : State) (v : FnValue) : State := { s with out := { s.out with value := v } }

/-- `raise DeliveryFailed(dst, seq) to HOST`: what this hardware has in place of taking an exception. The
event outputs carry the frame's destination and number; nothing is saved and control goes nowhere
(R265, R280, R293). -/
def State.raiseDeliveryFailed (s : State) (dst seq : Byte) : State :=
  { s with out := { s.out with evFail := true, evFailDst := dst, evFailSeq := seq } }

/-- Going on after the report, in place of a return: the frame is abandoned and TXP is `Idle` again
(R220, R296). -/
def State.resumeAfterFailure (s : State) : State :=
  { s with failSticky := true, cur := none, retry := 0, txState := .idle }

/-- Cancellation as TXP takes it: drive NEUTRAL, halt, keep all else (R211, R286). -/
def State.haltTx (s : State) : State := { s with lineOut := .neutral, txState := .halted }

/-- Cancellation as RXP takes it: halt, keep all else (R250, R286). -/
def State.haltRx (s : State) : State := { s with rxState := .halted }

/-! ### Control position -/

/-- Enter `Sending` with the sequencer at the first guard of the first wire byte (R182, R212, R213,
R218). -/
def State.startSending (s : State) : State :=
  { s with txWidx := 0, txPhase := .guard, txCnt := 0, txBit := 0, txState := .sending }

/-! ### Reset (R264, R320) -/

/-- Every register takes its reset value and the outputs rest; the configuration, the input ports, the
status latched this tick and the model's own fields stay (R320). -/
def State.resetRegisters (s : State) : State :=
  { State.resetWith s.cfg with
    lineIn := s.lineIn
    hReq := s.hReq
    hDst := s.hDst
    hPayload := s.hPayload
    status := s.status
    turn := s.turn
    tickNo := s.tickNo
    lineFeed := s.lineFeed
    hostFeed := s.hostFeed
    opPort := s.opPort }

/-! ### The status port (R267) -/

/-- The status outputs as the registers now stand. -/
def State.statusNow (s : State) : Status where
  txState := s.txState.code
  rxState := s.rxState.code
  framesSent := s.framesSent
  framesReceived := s.framesReceived
  retry := s.retry
  failSticky := s.failSticky
  shutdown := s.shutdown
  outqCount := s.outq.length
  inqCount := s.inq.length

end Sys2Proof.Machine
end

