-- ==== Sys2Proof/Machine/Codec.lean ====
section
/-! DEFINITION. The pure functions of the frame codec (R140 to R147) and of the framer's transmit side
(R160, R161). -/

namespace Sys2Proof.Machine

/-- The 16-bit accumulator after all bytes of `buf`, modulo 2^16 (R140, D2). -/
def accumulate : Acc → List Byte → Acc
  | acc, [] => acc
  | acc, b :: rest => accumulate (acc + zext16 b) rest

/-- One end-around carry: the high byte is added into the low byte (R140). -/
def foldOnce (acc : Acc) : Acc :=
  zext16 (acc.extractLsb' 0 8) + zext16 (acc.extractLsb' 8 8)

/-- The fold, repeated while anything is left above bit 7, at most `fuel` times (R140, D3). -/
def foldCarry : Nat → Acc → Acc
  | 0, acc => acc
  | fuel + 1, acc => if 0xFF < acc then foldCarry fuel (foldOnce acc) else acc

/-- `checksum(buf)` (R140). Two passes of the fold always suffice. -/
def checksum (buf : List Byte) : Byte :=
  ~~~((foldCarry 2 (accumulate 0 buf)).extractLsb' 0 8)

/-- `encode(f)` (R142). -/
def encodeFrame (f : Frame) : List Byte :=
  let hdr := [f.source, f.destination, f.sequenceNumber, f.headerChecksum, f.payloadChecksum]
  if f.isAcknowledgment then hdr else hdr ++ f.payload

/-- `decode(u)`, defined for `len(u) >= 5` (R109, R143). -/
def decodeFrame : List Byte → Option Frame
  | a :: b :: c :: d :: e :: rest =>
    some { source := a, destination := b, sequenceNumber := c, headerChecksum := d,
           payloadChecksum := e, payload := rest, isAcknowledgment := rest.isEmpty }
  | _ => none

/-- The checksum of the three header bytes that are not checksums (R144). -/
def headerSum (f : Frame) : Byte := checksum [f.source, f.destination, f.sequenceNumber]

/-- `verify(f, expDst, expSeq)`, all four conditions (R144). -/
def verify (f : Frame) (expDst expSeq : Byte) : Bool :=
  decide (f.destination = expDst) && decide (f.sequenceNumber = expSeq)
    && decide (headerSum f = f.headerChecksum)
    && decide (checksum f.payload = f.payloadChecksum)

/-- `finalize(d, MY_ID, n)` (R145). -/
def finalize (d : SendDesc) (myId n : Byte) : Frame where
  source := myId
  destination := d.destination
  sequenceNumber := n
  payload := d.payload
  headerChecksum := checksum [myId, d.destination, n]
  payloadChecksum := checksum d.payload
  isAcknowledgment := false

/-- `ackbuild({d, s}, MY_ID)` (R146). -/
def ackbuild (p : PendingAck) (myId : Byte) : Frame where
  source := myId
  destination := p.destination
  sequenceNumber := p.sequence
  payload := []
  headerChecksum := checksum [myId, p.destination, p.sequence]
  payloadChecksum := checksum []
  isAcknowledgment := true

/-- The stuffed form of one byte (R105, R160). -/
def stuffByte (b : Byte) : List Byte :=
  if b = sentinelByte ∨ b = escapeByte then [escapeByte, b] else [b]

/-- `stuff(s)` (R160). -/
def stuff : List Byte → List Byte
  | [] => []
  | b :: rest => stuffByte b ++ stuff rest

/-- `wire(f)` (R161). -/
def wire (f : Frame) : List Byte := stuff (encodeFrame f) ++ [sentinelByte]

end Sys2Proof.Machine
end

