-- ==== Sys2Proof/Machine/Flags.lean ====
section
/-! DEFINITION. The predicates the rules test: classes of a sample, the outstanding frame, the timer, the
conditions of a candidate, and the outcome of a unit. -/

namespace Sys2Proof.Machine

/-- `is_high(v)` (R186). -/
def isHigh (c : Config) (v : Int) : Bool := decide (c.thHigh < v)

/-- `is_low(v)` (R186). -/
def isLow (c : Config) (v : Int) : Bool := decide (v < c.thLow)

/-- *outstanding*: a data frame is in flight (R31, D30). -/
def State.outstanding (s : State) : Bool :=
  (decide (s.txState = .sending) || decide (s.txState = .awaitingAck)) && !s.curIsAck

/-- A received `b` is data: escaped, or neither of the two framing bytes (R104, R162). -/
def State.isDataByte (s : State) (b : Byte) : Bool :=
  s.rxEsc || (decide (b ≠ escapeByte) && decide (b ≠ sentinelByte))

/-- RXP takes no byte from the line: it is shut down, halted, or waits in `Deliver` (R185, R240, R247,
R250; log entry 12). -/
def State.deaf (s : State) : Bool :=
  s.shutdown || decide (s.rxState = .deliver) || decide (s.rxState = .halted)

/-- The new value of `ack_timer` in a waiting step (R217). -/
def State.timerNext (s : State) : Nat := s.ackTimer + 1

/-- The timer reaches its limit in this step (R217, R289). -/
def State.timerExpires (s : State) : Bool := decide (s.cfg.ackTimeoutTicks ≤ s.timerNext)

/-- The new value of `retry` on a timeout, in `RETRY_BITS` bits (R37, R217). -/
def State.retryNext (s : State) : Nat := (s.retry + 1) % 2 ^ s.cfg.retryBits

/-- The new retry count is within `MAX_ATTEMPTS` (R217, R218). -/
def State.retriesLeft (s : State) : Bool := decide (s.retryNext ≤ s.cfg.maxAttempts)

/-- `tx_widx = len(wire(cur))` (R182). -/
def State.wireDone (s : State) : Bool :=
  match s.cur with
  | some f => decide (s.txWidx = (wire f).length)
  | none => false

/-- The sequence number expected next, `(framesReceived + 1) mod 256` (R36, R245). -/
def State.expected (s : State) : Byte := seqNext s.framesReceived

/-- Unit `u` is the acknowledgment of the outstanding frame (R241, R244). -/
def State.ackMatches (s : State) (u : List Byte) : Bool :=
  decide (u.length = headerBytes) && s.outstanding &&
    match s.cur, decodeFrame u with
    | some f, some a => verify a s.cfg.myId f.sequenceNumber
    | _, _ => false

/-- The first condition of R245 that a candidate fails, in the order of R248; `none` where it is valid. -/
def candidateFailure (f : Frame) (myId e : Byte) : Option DiscardCause :=
  if f.destination ≠ myId then some .destinationMismatch
  else if f.sequenceNumber ≠ e then some .sequenceMismatch
  else if headerSum f ≠ f.headerChecksum then some .headerChecksum
  else if checksum f.payload ≠ f.payloadChecksum then some .payloadChecksum
  else none

/-- The candidate fails the sequence condition alone and carries the number accepted last (R249). -/
def isDuplicate (f : Frame) (myId received : Byte) : Bool :=
  decide (f.destination = myId) && decide (f.sequenceNumber = received)
    && decide (headerSum f = f.headerChecksum)
    && decide (checksum f.payload = f.payloadChecksum)

/-- What becomes of a finished unit that did not overflow. -/
inductive UnitOutcome where
  | undersized
  | ackMatch
  | accept (f : Frame)
  | duplicate (f : Frame)
  | invalid (c : DiscardCause)
  deriving DecidableEq, Repr

/-- The tests of R241 in their order, with R248's and R249's labels. -/
def State.unitOutcome (s : State) (u : List Byte) : UnitOutcome :=
  match decodeFrame u with
  | none => .undersized
  | some f =>
    if s.ackMatches u then .ackMatch
    else
      match candidateFailure f s.cfg.myId s.expected with
      | none => .accept f
      | some c =>
        if isDuplicate f s.cfg.myId s.framesReceived then .duplicate f else .invalid c

end Sys2Proof.Machine
end

