-- ==== Sys2Proof/Machine/Operands.lean ====
section
/-! DEFINITION. Where the operations take their operands from: the current wire byte, the control words
that select the paths' rows, the conditions of the `when` column, the request port. -/

namespace Sys2Proof.Machine

/-- `w[tx_widx]` of `w = wire(cur)` (R182). -/
def State.wireByte (s : State) : Option Byte :=
  match s.cur with
  | some f => (wire f)[s.txWidx]?
  | none => none

/-- `shutdown, tx_state[2:0]`, the code that selects TXP's row (R125). -/
def State.txWord (s : State) : BitVec 4 := BitVec.ofBool s.shutdown ++ s.txState.code

/-- `shutdown, rx_state[1:0]`, the code that selects RXP's row (R125). -/
def State.rxWord (s : State) : BitVec 3 := BitVec.ofBool s.shutdown ++ s.rxState.code

/-- The conditions of the table's `when` column, as the registers now stand. -/
def State.cond (s : State) : Cond where
  rxEsc := s.rxEsc
  ackMatched :=
    match s.heldUnit with
    | some u => s.ackMatches u
    | none => false
  ackPending := s.pendingAck.isSome
  outqEmpty := empty s.outq
  wireDone := s.wireDone
  ackFlag := s.ackFlag
  timerExpires := s.timerExpires
  retriesLeft := s.retriesLeft

/-- The requests of the tick that are still to be handled, with the operands of `SEND` (R111, R260). -/
def State.hostCode (s : State) : Code := .hreq s.hReq s.hDst s.hPayload

/-- `w` without bit `n`. -/
def clearBit (w : BitVec 4) (n : Nat) : BitVec 4 := w &&& ~~~(1#4 <<< n)

/-- The request port once `i` has been taken from it, and whose turn follows: `RESET` drops the other
requests and ends the tick, so that RXP and TXP take no step (R264, R269). -/
def State.afterRequest (s : State) (i : Instr) : State :=
  match i with
  | .reset => { s with hReq := 0, turn := .line }
  | .shutdown => { s with hReq := clearBit s.hReq 2 }
  | .send _ _ => { s with hReq := clearBit s.hReq 0 }
  | _ => { s with hReq := clearBit s.hReq 1 }

end Sys2Proof.Machine
end

