-- ==== Sys2Proof/Machine/ReceivePath.lean ====
section
/-! DEFINITION. What each rule of the receive path does, without its selecting condition: the framer
(R162 to R164), the handling of a unit (R241 to R249), the sampler (R187 to R191), and the dispatch of
R240. -/

namespace Sys2Proof.Machine

/-! ### The handling of a finished unit -/

/-- `rx_len <- 0; discard(c)` (R242, R243, R248). -/
def discardUnit (c : DiscardCause) (s : State) : State := State.label { s with rxLen := 0 } c

/-- R244: signal TXP. -/
def signalAck (s : State) : State := State.label { s with ackFlag := true, rxLen := 0 } .acted

/-- `pendingAck <- some({destination: u[0], sequence: u[2]})` (R246, R249). -/
def postAck (f : Frame) (s : State) : State :=
  { s with pendingAck := some { destination := f.source, sequence := f.sequenceNumber } }

/-- The frame as `inq` holds it, never an acknowledgment (R41, R246). -/
def asData (f : Frame) : Frame := { f with isAcknowledgment := false }

/-- R246: count, post the acknowledgment, then deliver, or wait in `Deliver` where `inq` is full. -/
def acceptFrame (f : Frame) (s : State) : State :=
  let s := postAck f { s with framesReceived := s.expected }
  let s := s.label .acted
  if full s.cfg s.inq then { s with rxState := .deliver }
  else { s with inq := enqueue s.inq (asData f), rxLen := 0 }

/-- R249: discard, acknowledged again only under `DUP_REACK`. -/
def dropDuplicate (f : Frame) (s : State) : State :=
  discardUnit .duplicate (if s.cfg.dupReack then postAck f s else s)

/-- R241: handle unit `u` with overflow mark `ovf`. -/
def handleUnit (u : List Byte) (ovf : Bool) (s : State) : State :=
  if ovf then discardUnit .overflow s
  else
    match s.unitOutcome u with
    | .undersized => discardUnit .undersized s
    | .ackMatch => signalAck s
    | .accept f => acceptFrame f s
    | .duplicate f => dropDuplicate f s
    | .invalid c => discardUnit c s

/-- R241 on the unit held in `rx_buf`. -/
def handleHeldUnit (ovf : Bool) (s : State) : Result :=
  match s.heldUnit with
  | some u => .next (handleUnit u ovf s)
  | none => .fault .rxBufRange

/-! ### The framer -/

/-- R163: store `b`, or mark the overflow and drop it. -/
def storeByte (b : Byte) (s : State) : State :=
  if s.rxLen < s.cfg.rxBufBytes then
    { s with rxBuf := s.rxBuf.write s.rxLen b, rxLen := s.rxLen + 1 }
  else { s with rxOvf := true }

/-- R163 for each byte in turn. -/
def storeAll : List Byte → State → State
  | [], s => s
  | b :: rest, s => storeAll rest (storeByte b s)

/-- R164: clear the mark and hand the unit over. -/
def endUnit (s : State) : Result := handleHeldUnit s.rxOvf { s with rxOvf := false }

/-- The class `LITERAL` of R104: the escape, if any, is used up and the byte is stored. -/
def receiveLiteral (b : Byte) (s : State) : State := storeByte b { s with rxEsc := false }

/-- R162: one received byte. -/
def unstuffByte (b : Byte) (s : State) : Result :=
  if s.rxEsc then .next (receiveLiteral b s)
  else if b = escapeByte then .next { s with rxEsc := true }
  else if b = sentinelByte then endUnit s
  else .next (storeByte b s)

/-- A whole unit handed over at once, the coarser model of R350: its bytes are stored from index 0 on, then
the unit ends. DESIGN CHOICE (log entry 16): the bytes of a partly received unit are given up, with `rx_len`
and `rx_ovf` cleared, while `rx_esc` keeps its value (R32), so that an escape that is pending stays so. -/
def receiveUnit (u : List Byte) (s : State) : Result :=
  endUnit (storeAll u { s with rxLen := 0, rxOvf := false })

/-! ### The sampler -/

/-- R187: one sample while hunting. -/
def huntSample (v : Int) (s : State) : State :=
  if isLow s.cfg v then { s with rxLowCnt := min (s.rxLowCnt + 1) s.cfg.dwellTicks }
  else if isHigh s.cfg v then
    if s.cfg.dwellTicks ≤ s.rxLowCnt then
      { s with rxState := .data, rxCnt := 0, rxBit := 0, rxShift := 0, rxLowCnt := 0 }
    else { s with rxLowCnt := 0 }
  else { s with rxLowCnt := 0 }

/-- The tick of `Data` in which bit `rx_bit` is sampled (R189, R190). -/
def State.samplePoint (s : State) : Nat := (s.rxBit + 1) * s.cfg.pulseTicks + s.cfg.sampleOffset

/-- `((rx_shift << 1) | bit)[7:0]` (R189). -/
def shiftIn (sh : Byte) (bit : Bool) : Byte := (sh <<< 1) ||| (BitVec.ofBool bit).setWidth 8

/-- R189 at a sample point: shift the bit in; the eighth completes the byte (R191). -/
def takeBit (v : Int) (s : State) : Result :=
  let sh := shiftIn s.rxShift (isHigh s.cfg v)
  let s := { s with rxShift := sh, rxBit := s.rxBit + 1 }
  if s.rxBit = bitsPerByte then unstuffByte sh { s with rxState := .hunt, rxLowCnt := 0 }
  else .next s

/-- R189: one sample within a byte. -/
def dataSample (v : Int) (s : State) : Result :=
  if s.rxCnt + 1 = s.samplePoint then takeBit v { s with rxCnt := s.rxCnt + 1 }
  else .next { s with rxCnt := s.rxCnt + 1 }

/-- R247: deliver the held frame once `inq` has room. -/
def deliverHeld (s : State) : Result :=
  if full s.cfg s.inq then .next s
  else
    match s.heldUnit with
    | none => .fault .rxBufRange
    | some u =>
      match decodeFrame u with
      | none => .fault .shortUnit
      | some f =>
        .next { s with inq := enqueue s.inq (asData f), rxLen := 0, rxState := .hunt, rxLowCnt := 0 }

/-- RXP's step of a tick, by the dispatch of R240. -/
def rxpStep (s : State) : Result :=
  if s.rxState = .halted then .next s
  else if s.shutdown then .next s.haltRx
  else
    match s.rxState with
    | .deliver => deliverHeld s
    | .hunt => .next (huntSample s.getLevel s)
    | .data => dataSample s.getLevel s
    | .halted => .next s

end Sys2Proof.Machine
end

