-- ==== Sys2Proof/Machine/Transcoder.lean ====
section
/-! DEFINITION. The line transcoder's transmit half: one tick of a byte slot, and the slot as a waveform
(R103, R181 to R184). -/

namespace Sys2Proof.Machine

/-- One tick of the slot of `b`: drive the level of the current phase and advance the cursor; after the
last tick of bit 0 the cursor stands at the next wire byte (R181, R182). -/
def slotTick (b : Byte) (s : State) : State :=
  match s.txPhase with
  | .guard =>
    let s := s.setLevel .low
    if s.txCnt + 1 = s.cfg.guardTicks then { s with txPhase := .start, txCnt := 0 }
    else { s with txCnt := s.txCnt + 1 }
  | .start =>
    let s := s.setLevel .high
    if s.txCnt + 1 = s.cfg.pulseTicks then { s with txPhase := .bit, txCnt := 0, txBit := 0 }
    else { s with txCnt := s.txCnt + 1 }
  | .bit =>
    let s := s.setLevel (levelOfBit (b.getLsbD (7 - s.txBit)))
    if s.txCnt + 1 < s.cfg.pulseTicks then { s with txCnt := s.txCnt + 1 }
    else if s.txBit < 7 then { s with txCnt := 0, txBit := s.txBit + 1 }
    else { s with txCnt := 0, txBit := 0, txPhase := .guard, txWidx := s.txWidx + 1 }

/-- The eight data intervals of `b`, bit 7 first, each `PULSE_TICKS` ticks (R103). -/
def dataWave (c : Config) (b : Byte) : List Level :=
  [7, 6, 5, 4, 3, 2, 1, 0].flatMap fun k => List.replicate c.pulseTicks (levelOfBit (b.getLsbD k))

/-- Format `SLOT`: the levels of the byte slot of `b`, one a tick (R103). -/
def slotWave (c : Config) (b : Byte) : List Level :=
  List.replicate c.guardTicks .low ++ List.replicate c.pulseTicks .high ++ dataWave c b

/-- The line form of a unit: the slots of its wire bytes with nothing between them (R102). -/
def unitWave (c : Config) (f : Frame) : List Level := (wire f).flatMap (slotWave c)

end Sys2Proof.Machine
end

