-- ==== Sys2Proof/Machine/TransmitPath.lean ====
section
/-! DEFINITION. What each rule of the transmit path does, without its selecting condition, and the
dispatch of R210. -/

namespace Sys2Proof.Machine

/-- R212: take the pending acknowledgment `p` and start sending it. -/
def takeAck (p : PendingAck) (s : State) : State :=
  State.startSending
    { s with pendingAck := none, cur := some (ackbuild p s.cfg.myId), curIsAck := true }

/-- R213: take descriptor `d`, of which `rest` stays queued, number it and start sending it. -/
def takeDescriptor (d : SendDesc) (rest : List SendDesc) (s : State) : State :=
  State.startSending
    { s with
      outq := rest
      framesSent := seqNext s.framesSent
      cur := some (finalize d s.cfg.myId (seqNext s.framesSent))
      curIsAck := false
      retry := 0 }

/-- R183 and R215: the wire bytes are done; an acknowledgment is finished, a data frame is awaited. -/
def endTransmission (s : State) : State :=
  let s := s.setLevel .neutral
  if s.curIsAck then { s with cur := none, curIsAck := false, txState := .idle }
  else { s with ackTimer := 0, txState := .awaitingAck }

/-- R182 for the wire byte at `tx_widx`; a frame that is missing, or a cursor outside R26's range, has none
(log entry 21). -/
def sequencerStep (s : State) : Result :=
  match s.cur, s.wireByte with
  | none, _ => .fault .noFrame
  | some _, some b => .next (slotTick b s)
  | some _, none => .fault .wireRange

/-- R216: consume the signal. -/
def consumeAck (s : State) : State :=
  { s with ackFlag := false, retry := 0, cur := none, txState := .idle }

/-- R217 below the limit. -/
def countTimer (s : State) : State := { s with ackTimer := s.timerNext }

/-- R217 at the limit: the timeout is counted. -/
def countTimeout (s : State) : State :=
  { s with ackTimer := s.timerNext, retry := s.retryNext }

/-- R218: send the same frame again. -/
def retransmit (s : State) : State := State.startSending (countTimeout s)

/-- R219: the retries are used up. -/
def giveUp (s : State) : State := { countTimeout s with txState := .failed }

/-- R265: the report names the abandoned frame. -/
def reportFailure (s : State) : Result :=
  match s.cur with
  | some f => .next (s.raiseDeliveryFailed f.destination f.sequenceNumber)
  | none => .fault .noFrame

/-- R220: report, abandon, go on. -/
def failFrame (s : State) : Result := andThen (reportFailure s) fun s => .next s.resumeAfterFailure

/-- TXP's step of a tick, by the dispatch of R210. -/
def txpStep (s : State) : Result :=
  if s.txState = .halted then .next s
  else if s.shutdown then .next s.haltTx
  else
    match s.txState with
    | .idle =>
      match s.pendingAck, s.outq with
      | some p, _ => .next (takeAck p s)
      | none, d :: rest => .next (takeDescriptor d rest s)
      | none, [] => .next s
    | .sending => if s.wireDone then .next (endTransmission s) else sequencerStep s
    | .awaitingAck =>
      if s.ackFlag then .next (consumeAck s)
      else if !s.timerExpires then .next (countTimer s)
      else if s.retriesLeft then .next (retransmit s)
      else .next (giveUp s)
    | .failed => failFrame s
    | .halted => .next s

end Sys2Proof.Machine
end

