-- ==== Sys2Proof/Machine/Codes.lean ====
section
/-! DEFINITION. The rows of the formats `TXST`, `RXST` (the step taken at a state code, R115, R116; log
entry 11; at another state the dispatch of R210 or R240 decides all the same, log entry 10) and `DCAUSE`
(the labels, R282). -/

namespace Sys2Proof.Machine

/-- `TXST_Idle`: TXP's step at code `000` (R115, R210, R214). -/
def execTxstIdle (s : State) : Result := txpStep s

/-- `TXST_Sending`: TXP's step at code `001` (R115, R182, R210). -/
def execTxstSending (s : State) : Result := txpStep s

/-- `TXST_AwaitingAck`: TXP's step at code `010` (R115, R210, R217). -/
def execTxstAwaitingAck (s : State) : Result := txpStep s

/-- `TXST_Failed`: TXP's step at code `011` (R115, R210, R220). -/
def execTxstFailed (s : State) : Result := txpStep s

/-- `TXST_Halted`: TXP's step at code `100` (R115, R210, R221). -/
def execTxstHalted (s : State) : Result := txpStep s

/-- `RXST_Hunt`: RXP's step at code `00` (R116, R187, R240). -/
def execRxstHunt (s : State) : Result := rxpStep s

/-- `RXST_Data`: RXP's step at code `01` (R116, R189, R240). -/
def execRxstData (s : State) : Result := rxpStep s

/-- `RXST_Deliver`: RXP's step at code `10` (R116, R240, R247). -/
def execRxstDeliver (s : State) : Result := rxpStep s

/-- `RXST_Halted`: RXP's step at code `11` (R116, R240, R250). -/
def execRxstHalted (s : State) : Result := rxpStep s

/-- `DC_None` (R282). -/
def execDcNone (s : State) : Result := .next (s.label .acted)

/-- `DC_Overflow` (R242, R282). -/
def execDcOverflow (s : State) : Result := .next (s.label .overflow)

/-- `DC_Undersized` (R243, R282). -/
def execDcUndersized (s : State) : Result := .next (s.label .undersized)

/-- `DC_DestinationMismatch` (R248, R282). -/
def execDcDestinationMismatch (s : State) : Result := .next (s.label .destinationMismatch)

/-- `DC_SequenceMismatch` (R248, R282). -/
def execDcSequenceMismatch (s : State) : Result := .next (s.label .sequenceMismatch)

/-- `DC_HeaderChecksum` (R248, R282). -/
def execDcHeaderChecksum (s : State) : Result := .next (s.label .headerChecksum)

/-- `DC_PayloadChecksum` (R248, R282). -/
def execDcPayloadChecksum (s : State) : Result := .next (s.label .payloadChecksum)

/-- `DC_Duplicate` (R249, R282). -/
def execDcDuplicate (s : State) : Result := .next (s.label .duplicate)

end Sys2Proof.Machine
end

