-- ==== Sys2Proof/Machine/Functions.lean ====
section
/-! DEFINITION. The rows of the format `FN`: the pure functions write no register; the value they return is
shown on the model's own output `out.value` (R140 to R146, R160, R161; log entry 8). -/

namespace Sys2Proof.Machine

/-- `CHECKSUM` (R140). -/
def execChecksum (buf : List Byte) (s : State) : Result := .next (s.present (.byte (checksum buf)))

/-- `ENCODE` (R142). -/
def execEncode (f : Frame) (s : State) : Result := .next (s.present (.bytes (encodeFrame f)))

/-- `DECODE`, defined for 5 bytes or more (R143). -/
def execDecode (u : List Byte) (s : State) : Result :=
  match decodeFrame u with
  | some f => .next (s.present (.frame f))
  | none => .fault .shortUnit

/-- `VERIFY` (R144). -/
def execVerify (f : Frame) (expDst expSeq : Byte) (s : State) : Result :=
  .next (s.present (.bool (verify f expDst expSeq)))

/-- `FINALIZE`, with this endpoint's `MY_ID` (R145). -/
def execFinalize (d : SendDesc) (n : Byte) (s : State) : Result :=
  .next (s.present (.frame (finalize d s.cfg.myId n)))

/-- `ACKBUILD`, with this endpoint's `MY_ID` (R146). -/
def execAckbuild (p : PendingAck) (s : State) : Result :=
  .next (s.present (.frame (ackbuild p s.cfg.myId)))

/-- `STUFF` (R160). -/
def execStuff (buf : List Byte) (s : State) : Result := .next (s.present (.bytes (stuff buf)))

/-- `WIRE` (R161). -/
def execWire (f : Frame) (s : State) : Result := .next (s.present (.bytes (wire f)))

end Sys2Proof.Machine
end

