-- ==== Sys2Proof/Machine/HostPort.lean ====
section
/-! DEFINITION. The host's requests (R261 to R264) and their answers (R112, R287), rows of the formats
`HREQ` and `HRSP`. -/

namespace Sys2Proof.Machine

/-- The answer to `SEND` of a payload of `len` bytes, in the order `Cancelled`, `TooLong`, `WouldBlock`
(R261, R287). -/
def State.sendAnswer (s : State) (len : Nat) : Rsp :=
  if s.shutdown then .cancelled
  else if s.cfg.maxPayload < len then .tooLong
  else if full s.cfg s.outq then .wouldBlock
  else .ok

/-- `SEND` (R261). -/
def execSend (dst : Byte) (payload : List Byte) (s : State) : Result :=
  let r := s.sendAnswer payload.length
  let s := s.answerSend r
  match r with
  | .ok => .next { s with outq := enqueue s.outq { destination := dst, payload := payload } }
  | _ => .next s

/-- `RECV` (R262). -/
def execRecv (s : State) : Result :=
  if s.shutdown then .next (s.answerRecv .cancelled)
  else
    match s.inq with
    | [] => .next (s.answerRecv .wouldBlock)
    | f :: rest => .next (State.answerRecv (State.showFrame { s with inq := rest } f) .ok)

/-- `SHUTDOWN` (R263). -/
def execShutdown (s : State) : Result := .next { s with shutdown := true }

/-- `RESET` (R264, R320). -/
def execReset (s : State) : Result := .next s.resetRegisters

/-- `OK` (R112). -/
def execOk (call : HostCall) (s : State) : Result := .next (s.answer call .ok)

/-- `WouldBlock` (R112, R287): no register changes. -/
def execWouldBlock (call : HostCall) (s : State) : Result := .next (s.answer call .wouldBlock)

/-- `Cancelled` (R112, R287): no register changes. -/
def execCancelled (call : HostCall) (s : State) : Result := .next (s.answer call .cancelled)

/-- `TooLong` (R112, R287): no register changes. -/
def execTooLong (s : State) : Result := .next (s.answerSend .tooLong)

end Sys2Proof.Machine
end

