-- ==== Sys2Proof/Machine/Line.lean ====
section
/-! DEFINITION. The rows of the formats `SLOT`, `LVL`, `WBYTE`, `WPAIR` and `HDR`: what arrives on or goes
out to the line, layer by layer (R100). What class a received byte or unit has is always decided by R162's
and R241's tests (log entry 10). -/

namespace Sys2Proof.Machine

/-- What arrives on the line while RXP does not read it is lost: nothing changes (R247, R250, R340; log
entry 12). -/
def heard (s : State) (r : Result) : Result := if s.deaf then .next s else r

/-- `SLOT` (R103, R181): one tick of the line form of `b`. DESIGN CHOICE (log entry 27): executed alone it
drives the line and moves the cursor whatever `tx_state` and `shutdown` are, though R42 and R183 have
`line_out` NEUTRAL outside `Sending`; TXP's own step drives a slot in `Sending` alone. -/
def execSlot (b : Byte) (s : State) : Result := .next (slotTick b s)

/-- `LVL_NEUTRAL` (R101, R300), in any `tx_state` (DESIGN CHOICE, log entry 27). -/
def execLvlNeutral (s : State) : Result := .next (s.setLevel .neutral)

/-- `LVL_HIGH` (R101, R300). DESIGN CHOICE (log entry 27): executed alone it drives the line in any
`tx_state`, with `shutdown` 0 or 1, though R42 and R183 have `line_out` NEUTRAL outside `Sending`. -/
def execLvlHigh (s : State) : Result := .next (s.setLevel .high)

/-- `LVL_LOW` (R101, R300). DESIGN CHOICE (log entry 27): executed alone it drives the line in any
`tx_state`, with `shutdown` 0 or 1, though R42 and R183 have `line_out` NEUTRAL outside `Sending`. -/
def execLvlLow (s : State) : Result := .next (s.setLevel .low)

/-- `SENTINEL` (R104, R162): the unit ends; after an escape the byte `0x7E` is data. -/
def execSentinel (s : State) : Result :=
  heard s (orDispatched (!s.rxEsc) (endUnit s) (unstuffByte sentinelByte s))

/-- `ESCAPE` (R104, R162): the next byte is literal; after an escape the byte `0x7D` is data. -/
def execEscape (s : State) : Result :=
  heard s (orDispatched (!s.rxEsc) (.next { s with rxEsc := true }) (unstuffByte escapeByte s))

/-- `LITERAL` (R104, R162): stored as data; `0x7D` and `0x7E` without an escape before them have the class
R162 gives them. -/
def execLiteral (b : Byte) (s : State) : Result :=
  heard s (orDispatched (s.isDataByte b) (.next (receiveLiteral b s)) (unstuffByte b s))

/-- `ESC_SENTINEL` (R105, R160): the form in which data byte `0x7E` is sent. -/
def execEscSentinel (s : State) : Result := .next (s.present (.bytes (stuffByte sentinelByte)))

/-- `ESC_ESCAPE` (R105, R160): the form in which data byte `0x7D` is sent. -/
def execEscEscape (s : State) : Result := .next (s.present (.bytes (stuffByte escapeByte)))

/-- `ESC_ANY` (R119, R162): the bytes `0x7D` and `b` received one after the other. -/
def execEscAny (b : Byte) (s : State) : Result :=
  heard s (andThen (unstuffByte escapeByte s) fun s => heard s (unstuffByte b s))

/-- `DATA` (R107, R245): the unit is handled as a data-frame candidate; one that R241's tests find to be the
awaited acknowledgment is taken as that (R241, R244). -/
def execData (source destination sequenceNumber headerChecksum payloadChecksum : Byte)
    (payload : List Byte) (s : State) : Result :=
  heard s (receiveUnit
    (source :: destination :: sequenceNumber :: headerChecksum :: payloadChecksum :: payload) s)

/-- `ACK` (R108, R244): the unit is taken as the acknowledgment of the outstanding frame; one that R241's
tests find not to match is a data-frame candidate without payload (R241, R245). -/
def execAck (source destination sequenceNumber headerChecksum payloadChecksum : Byte)
    (s : State) : Result :=
  heard s (receiveUnit [source, destination, sequenceNumber, headerChecksum, payloadChecksum] s)

end Sys2Proof.Machine
end

