-- ==== Sys2Proof/Machine/RxSteps.lean ====
section
/-! DEFINITION. The rows of the formats `RXSTEP` and `RXSUB`: RXP's steps and the operations that run
inside the `RXDATA` step that completes a byte, each with the condition that selects it (R125, R162 to
R164, R187, R189, R240 to R250). What R240's dispatch and R241's tests decide happens wherever a row's own
condition does not hold (log entry 10); the rows of `RXSUB` run in any state of RXP (log entry 26). -/

namespace Sys2Proof.Machine

/-- RXP is in `st` and not shut down: the condition `0ss` of a row's code (R125). -/
def State.rxIn (s : State) (st : RxState) : Bool := !s.shutdown && decide (s.rxState = st)

/-- The outcome of the held unit (R241). -/
def State.heldOutcome (s : State) : Option UnitOutcome := s.heldUnit.map s.unitOutcome

/-- `RX_HALTED` (R250): nothing changes. -/
def execRxHalted (x : Bool) (s : State) : Result :=
  orDispatched (decide (s.rxState = .halted) && decide (s.shutdown = x)) (.next s) (rxpStep s)

/-- `RX_HALT` (R250). -/
def execRxHalt (st : RxState) (s : State) : Result :=
  orDispatched (s.shutdown && decide (st ≠ .halted) && decide (s.rxState = st)) (.next s.haltRx)
    (rxpStep s)

/-- `RX_DELIVER` (R247). -/
def execRxDeliver (s : State) : Result := orDispatched (s.rxIn .deliver) (deliverHeld s) (rxpStep s)

/-- `RXHUNT` (R187). -/
def execRxhunt (s : State) : Result :=
  orDispatched (s.rxIn .hunt) (.next (huntSample s.getLevel s)) (rxpStep s)

/-- `RXDATA` (R189 to R191). -/
def execRxdata (s : State) : Result :=
  orDispatched (s.rxIn .data) (dataSample s.getLevel s) (rxpStep s)

/-- `UNSTUFF` (R162). -/
def execUnstuff (b : Byte) (s : State) : Result := unstuffByte b s

/-- `STORE` (R163). -/
def execStore (b : Byte) (s : State) : Result := .next (storeByte b s)

/-- `UNITEND` (R164). -/
def execUnitend (s : State) : Result := endUnit s

/-- `UNIT` (R241). -/
def execUnit (ovf : Bool) (s : State) : Result := handleHeldUnit ovf s

/-- `RX_OVERFLOW` (R242). -/
def execRxOverflow (s : State) : Result := .next (discardUnit .overflow s)

/-- `RX_UNDERSIZED` (R243). -/
def execRxUndersized (s : State) : Result :=
  match s.heldOutcome with
  | some .undersized => .next (discardUnit .undersized s)
  | _ => handleHeldUnit false s

/-- `RX_ACKMATCH` (R244). -/
def execRxAckmatch (s : State) : Result :=
  match s.heldOutcome with
  | some .ackMatch => .next (signalAck s)
  | _ => handleHeldUnit false s

/-- `RX_ACCEPT` (R246). -/
def execRxAccept (s : State) : Result :=
  match s.heldOutcome with
  | some (.accept f) => .next (acceptFrame f s)
  | _ => handleHeldUnit false s

/-- `RX_INVALID` (R248). -/
def execRxInvalid (s : State) : Result :=
  match s.heldOutcome with
  | some (.invalid c) => .next (discardUnit c s)
  | _ => handleHeldUnit false s

/-- `RX_DUPLICATE` (R249). -/
def execRxDuplicate (s : State) : Result :=
  match s.heldOutcome with
  | some (.duplicate f) => .next (dropDuplicate f s)
  | _ => handleHeldUnit false s

end Sys2Proof.Machine
end

