-- ==== Sys2Proof/Machine/TxSteps.lean ====
section
/-! DEFINITION. The rows of the formats `TXSTEP` and `EVENT`: TXP's steps, each with the condition that
selects it (R125, R210 to R221, R265). A step of TXP is always the one that R210's dispatch chooses, so a
row executed where its condition does not hold does the dispatched step (log entry 10). -/

namespace Sys2Proof.Machine

/-- TXP is in `st` and not shut down: the condition `0sss` of a row's code (R125). -/
def State.txIn (s : State) (st : TxState) : Bool := !s.shutdown && decide (s.txState = st)

/-- `TX_HALTED` (R221): no register changes. -/
def execTxHalted (x : Bool) (s : State) : Result :=
  orDispatched (decide (s.txState = .halted) && decide (s.shutdown = x)) (.next s) (txpStep s)

/-- `TX_HALT` (R211). -/
def execTxHalt (st : TxState) (s : State) : Result :=
  orDispatched (s.shutdown && decide (st ≠ .halted) && decide (s.txState = st)) (.next s.haltTx)
    (txpStep s)

/-- `TX_IDLE_ACK` (R212). -/
def execTxIdleAck (s : State) : Result :=
  match s.pendingAck with
  | some p => orDispatched (s.txIn .idle) (.next (takeAck p s)) (txpStep s)
  | none => txpStep s

/-- `TX_IDLE_DATA` (R213). -/
def execTxIdleData (s : State) : Result :=
  match s.outq with
  | d :: rest =>
    orDispatched (s.txIn .idle && s.pendingAck.isNone) (.next (takeDescriptor d rest s)) (txpStep s)
  | [] => txpStep s

/-- `TX_IDLE_WAIT` (R214): no register changes. -/
def execTxIdleWait (s : State) : Result :=
  orDispatched (s.txIn .idle && s.pendingAck.isNone && empty s.outq) (.next s) (txpStep s)

/-- `TXSEQ` (R182). -/
def execTxseq (s : State) : Result :=
  orDispatched (s.txIn .sending && !s.wireDone) (sequencerStep s) (txpStep s)

/-- `TX_SENT` (R183, R215). -/
def execTxSent (s : State) : Result :=
  orDispatched (s.txIn .sending && s.wireDone) (.next (endTransmission s)) (txpStep s)

/-- `TX_ACKED` (R216). -/
def execTxAcked (s : State) : Result :=
  orDispatched (s.txIn .awaitingAck && s.ackFlag) (.next (consumeAck s)) (txpStep s)

/-- `TX_WAIT` (R217). -/
def execTxWait (s : State) : Result :=
  orDispatched (s.txIn .awaitingAck && !s.ackFlag && !s.timerExpires) (.next (countTimer s)) (txpStep s)

/-- `TX_RETRANSMIT` (R217, R218). -/
def execTxRetransmit (s : State) : Result :=
  orDispatched (s.txIn .awaitingAck && !s.ackFlag && s.timerExpires && s.retriesLeft)
    (.next (retransmit s)) (txpStep s)

/-- `TX_LIMIT` (R217, R219). -/
def execTxLimit (s : State) : Result :=
  orDispatched (s.txIn .awaitingAck && !s.ackFlag && s.timerExpires && !s.retriesLeft)
    (.next (giveUp s)) (txpStep s)

/-- `TX_FAILED` (R220). -/
def execTxFailed (s : State) : Result := orDispatched (s.txIn .failed) (failFrame s) (txpStep s)

/-- `DELIVERYFAILED` (R265), raised by `TX_FAILED` alone; in any other state of TXP nothing is raised and
`ev_fail` rests (R211, R265; log entry 10). -/
def execDeliveryfailed (s : State) : Result :=
  orDispatched (s.txIn .failed) (reportFailure s) (.next s)

end Sys2Proof.Machine
end

