-- ==== Sys2Proof/Machine/Dispatch.lean ====
section
/-! DEFINITION. What each operation does: one arm per row of spec/opcode_table.json. -/

namespace Sys2Proof.Machine

/-- The meaning of an operation. -/
def exec (i : Instr) (s : State) : Host.Outcome State Fault Refusal :=
  match i with
  | .slot b => Sys2Proof.Machine.execSlot b s
  | .lvlNeutral => Sys2Proof.Machine.execLvlNeutral s
  | .lvlHigh => Sys2Proof.Machine.execLvlHigh s
  | .lvlLow => Sys2Proof.Machine.execLvlLow s
  | .sentinel => Sys2Proof.Machine.execSentinel s
  | .escape => Sys2Proof.Machine.execEscape s
  | .literal b => Sys2Proof.Machine.execLiteral b s
  | .escSentinel => Sys2Proof.Machine.execEscSentinel s
  | .escEscape => Sys2Proof.Machine.execEscEscape s
  | .escAny b => Sys2Proof.Machine.execEscAny b s
  | .data src dst seq hcs pcs payload => Sys2Proof.Machine.execData src dst seq hcs pcs payload s
  | .ack src dst seq hcs pcs => Sys2Proof.Machine.execAck src dst seq hcs pcs s
  | .send dst payload => Sys2Proof.Machine.execSend dst payload s
  | .recv => Sys2Proof.Machine.execRecv s
  | .shutdown => Sys2Proof.Machine.execShutdown s
  | .reset => Sys2Proof.Machine.execReset s
  | .ok call => Sys2Proof.Machine.execOk call s
  | .wouldBlock call => Sys2Proof.Machine.execWouldBlock call s
  | .cancelled call => Sys2Proof.Machine.execCancelled call s
  | .tooLong => Sys2Proof.Machine.execTooLong s
  | .txstIdle => Sys2Proof.Machine.execTxstIdle s
  | .txstSending => Sys2Proof.Machine.execTxstSending s
  | .txstAwaitingAck => Sys2Proof.Machine.execTxstAwaitingAck s
  | .txstFailed => Sys2Proof.Machine.execTxstFailed s
  | .txstHalted => Sys2Proof.Machine.execTxstHalted s
  | .rxstHunt => Sys2Proof.Machine.execRxstHunt s
  | .rxstData => Sys2Proof.Machine.execRxstData s
  | .rxstDeliver => Sys2Proof.Machine.execRxstDeliver s
  | .rxstHalted => Sys2Proof.Machine.execRxstHalted s
  | .dcNone => Sys2Proof.Machine.execDcNone s
  | .dcOverflow => Sys2Proof.Machine.execDcOverflow s
  | .dcUndersized => Sys2Proof.Machine.execDcUndersized s
  | .dcDestinationMismatch => Sys2Proof.Machine.execDcDestinationMismatch s
  | .dcSequenceMismatch => Sys2Proof.Machine.execDcSequenceMismatch s
  | .dcHeaderChecksum => Sys2Proof.Machine.execDcHeaderChecksum s
  | .dcPayloadChecksum => Sys2Proof.Machine.execDcPayloadChecksum s
  | .dcDuplicate => Sys2Proof.Machine.execDcDuplicate s
  | .checksum buf => Sys2Proof.Machine.execChecksum buf s
  | .encode f => Sys2Proof.Machine.execEncode f s
  | .decode u => Sys2Proof.Machine.execDecode u s
  | .verify f expDst expSeq => Sys2Proof.Machine.execVerify f expDst expSeq s
  | .finalize d n => Sys2Proof.Machine.execFinalize d n s
  | .ackbuild p => Sys2Proof.Machine.execAckbuild p s
  | .stuff buf => Sys2Proof.Machine.execStuff buf s
  | .wire f => Sys2Proof.Machine.execWire f s
  | .txHalted x => Sys2Proof.Machine.execTxHalted x s
  | .txHalt st => Sys2Proof.Machine.execTxHalt st s
  | .txIdleAck => Sys2Proof.Machine.execTxIdleAck s
  | .txIdleData => Sys2Proof.Machine.execTxIdleData s
  | .txIdleWait => Sys2Proof.Machine.execTxIdleWait s
  | .txseq => Sys2Proof.Machine.execTxseq s
  | .txSent => Sys2Proof.Machine.execTxSent s
  | .txAcked => Sys2Proof.Machine.execTxAcked s
  | .txWait => Sys2Proof.Machine.execTxWait s
  | .txRetransmit => Sys2Proof.Machine.execTxRetransmit s
  | .txLimit => Sys2Proof.Machine.execTxLimit s
  | .txFailed => Sys2Proof.Machine.execTxFailed s
  | .rxHalted x => Sys2Proof.Machine.execRxHalted x s
  | .rxHalt st => Sys2Proof.Machine.execRxHalt st s
  | .rxDeliver => Sys2Proof.Machine.execRxDeliver s
  | .rxhunt => Sys2Proof.Machine.execRxhunt s
  | .rxdata => Sys2Proof.Machine.execRxdata s
  | .unstuff b => Sys2Proof.Machine.execUnstuff b s
  | .store b => Sys2Proof.Machine.execStore b s
  | .unitend => Sys2Proof.Machine.execUnitend s
  | .unit ovf => Sys2Proof.Machine.execUnit ovf s
  | .rxOverflow => Sys2Proof.Machine.execRxOverflow s
  | .rxUndersized => Sys2Proof.Machine.execRxUndersized s
  | .rxAckmatch => Sys2Proof.Machine.execRxAckmatch s
  | .rxAccept => Sys2Proof.Machine.execRxAccept s
  | .rxInvalid => Sys2Proof.Machine.execRxInvalid s
  | .rxDuplicate => Sys2Proof.Machine.execRxDuplicate s
  | .deliveryfailed => Sys2Proof.Machine.execDeliveryfailed s

end Sys2Proof.Machine
end

