-- ==== Sys2Proof/Machine/Fetch.lean ====
section
/-! DEFINITION. What a step runs next: the inputs of a tick (R80), the request port, the paths' control
words, and the code presented for single execution (log entry 7). -/

namespace Sys2Proof.Machine

/-- What the HOST presents in the coming tick. -/
def State.nextRequest (s : State) : HostIn :=
  match s.hostFeed with
  | h :: _ => h
  | [] => Config.hostChoice s.tickNo

/-- What the LINE presents in the coming tick. -/
def State.nextVoltage (s : State) : Int :=
  match s.lineFeed with
  | v :: _ => v
  | [] => Config.lineChoice s.tickNo

/-- The start of a tick: LINE fixes `line_in`, the HOST's requests stand on the port, the status outputs are
latched and the other outputs rest (R80, R260, R267, IU12). -/
def State.beginTick (s : State) : State :=
  { s with
    lineIn := s.nextVoltage
    lineFeed := s.lineFeed.tail
    hReq := s.nextRequest.req
    hDst := s.nextRequest.dst
    hPayload := s.nextRequest.payload
    hostFeed := s.hostFeed.tail
    status := s.statusNow
    out := Outputs.rest
    tickNo := s.tickNo + 1
    turn := .host }

/-- The request the HOST's turn handles next (R269). -/
def State.hostInstr (s : State) : Except DecodeError Instr := decode s.cond s.hostCode

/-- The row RXP's control word selects (R125, R240). -/
def State.rxInstr (s : State) : Except DecodeError Instr := decode s.cond (.rxstep s.rxWord)

/-- The row TXP's control word selects (R125, R210). -/
def State.txInstr (s : State) : Except DecodeError Instr := decode s.cond (.txstep s.txWord)

/-- The instruction a presented code stands for. -/
def OpWord.instr (o : OpWord) : Except DecodeError Instr :=
  match decodeTableWord o.nbits o.word with
  | some i => .ok i
  | none => .error .noRow

/-- Place the code `w` where the next step takes it: a request on the request port in the HOST's turn, any
other code on the model's own port (log entry 7). -/
def State.place (s : State) (nbits w : Nat) : State :=
  match codeOfTableWord nbits w with
  | some (.hreq req dst payload) =>
    { s with opPort := none, turn := .host, hReq := req, hDst := dst, hPayload := payload }
  | _ => { s with opPort := some { nbits := nbits, word := w } }

end Sys2Proof.Machine
end

