-- ==== Sys2Proof/Machine/Step.lean ====
section
/-! DEFINITION. One step: an agent's turn within a tick, in the order LINE, HOST, RXP, TXP (R80). The HOST
takes one step per request. -/

namespace Sys2Proof.Machine

/-- Run what the decoder read. -/
def runDecoded (i : Except DecodeError Instr) (s : State) : Host.Outcome State Fault Refusal :=
  match i with
  | .ok i => exec i s
  | .error e => .refused (.undecodable e)

/-- The HOST's turn: the request handled next, or on to RXP where none is left (R269). -/
def hostTurn (s : State) : Host.Outcome State Fault Refusal :=
  if s.hReq = 0 then .next { s with turn := .rxp }
  else
    match s.hostInstr with
    | .ok i => exec i (s.afterRequest i)
    | .error e => .refused (.undecodable e)

/-- One step (R80). A configuration outside R10 is refused (IU6). -/
def step (s : State) : Host.Outcome State Fault Refusal :=
  if s.cfg.legal then
    match s.opPort with
    | some o => runDecoded o.instr { s with opPort := none }
    | none =>
      match s.turn with
      | .line => .next s.beginTick
      | .host => hostTurn s
      | .rxp => runDecoded s.rxInstr { s with turn := .txp }
      | .txp => runDecoded s.txInstr { s with turn := .line }
  else .refused .illegalConfig

/-- `s` with the table word `w` placed where the next step takes it. -/
def State.withFetchWord (s : State) (nbits w : Nat) : State := s.place nbits w

end Sys2Proof.Machine
end

