-- ==== Sys2Proof/Machine/Medium.lean ====
section
/-! DEFINITION. The ideal line of R301 and R302: what the LINE agent presents where it neither delays nor
distorts. A step does not call it (the LINE is outside the hardware, R4); it says which `lineFeed` an
ideal line gives. -/

namespace Sys2Proof.Machine

/-- The levels of the drivers that are not at NEUTRAL (R302). -/
def drivenLevels (ls : List Level) : List Level := ls.filter fun l => decide (l ≠ .neutral)

/-- The voltage an ideal line shows: drivers at NEUTRAL are ignored, agreeing drivers show their level, none
shows NEUTRAL, and disagreement is unspecified (R302). -/
def resolveLine (c : Config) (ls : List Level) : Int :=
  match drivenLevels ls with
  | [] => c.vNeutral
  | l :: rest => if rest.all fun l' => decide (l' = l) then voltage c l else Config.lineContention (ls.map Level.code)

/-- `line_in` of the next tick on an ideal line to which the endpoints `ends` are attached (R301). -/
def idealLineIn (c : Config) (ends : List State) : Int := resolveLine c (ends.map State.lineOut)

end Sys2Proof.Machine
end

