-- ==== Sys2Proof/Machine/Tick.lean ====
section
/-! DEFINITION. A tick in one piece, as R80 describes it, and runs of one path or one layer on its own: the
terms in which claims about many steps are stated. -/

namespace Sys2Proof.Machine

/-- The requests `q` of a tick without `RESET`, in the order `SHUTDOWN`, `SEND`, `RECV` (R269). -/
def requestsInOrder (q : BitVec 4) (s : State) : Result :=
  andThen (if q.getLsbD 2 then execShutdown s else .next s) fun s =>
    andThen (if q.getLsbD 0 then execSend s.hDst s.hPayload s else .next s) fun s =>
      if q.getLsbD 1 then execRecv s else .next s

/-- A tick: LINE, HOST, RXP, TXP, each one atomic step; `RESET` ends it at once (R80, R264, R320). -/
def tick (s : State) : Result :=
  let q := s.nextRequest.req
  let s := { s.beginTick with hReq := 0, turn := .line }
  if q.getLsbD 3 then .next s.resetRegisters
  else andThen (requestsInOrder q s) fun s => andThen (rxpStep s) txpStep

/-- How many steps of the machine the coming tick takes: one for LINE, one a request and one to close the
HOST's turn, one each for RXP and TXP; a tick with `RESET` ends after it. -/
def State.stepsOfTick (s : State) : Nat :=
  let q := s.nextRequest.req
  if q.getLsbD 3 then 2
  else 4 + (q.getLsbD 0).toNat + (q.getLsbD 1).toNat + (q.getLsbD 2).toNat

/-- `n` steps of TXP alone. -/
def txRun : Nat → State → Result
  | 0, s => .next s
  | n + 1, s => andThen (txpStep s) (txRun n)

/-- The level driven after each of `n` steps of TXP alone; shorter where TXP stops. -/
def txWave : Nat → State → List Level
  | 0, _ => []
  | n + 1, s =>
    match txpStep s with
    | .next t => t.lineOut :: txWave n t
    | _ => []

/-- One step of RXP alone for each voltage the line presents. -/
def rxRun : List Int → State → Result
  | [], s => .next s
  | v :: rest, s => andThen (rxpStep { s with lineIn := v }) (rxRun rest)

/-- The framer fed the wire bytes one after the other (R162, R350). -/
def receiveBytes : List Byte → State → Result
  | [], s => .next s
  | b :: rest, s => andThen (unstuffByte b s) (receiveBytes rest)

end Sys2Proof.Machine
end

