-- ==== Sys2Proof/Safety.lean ====
section
/-! DEFINITION. What counts as a safe run: the invariant of the registers of one endpoint that runs by
itself, which operations store a byte and where, and going on without a stop. -/

namespace Sys2Proof.Machine

/-- `rx_buf` in canonical form within its capacity; `rx_ovf` marks only a full buffer (R23, R32, R163). -/
structure BufferSound (s : State) : Prop where
  canonical : s.rxBuf.wf = true
  within : s.rxBuf.below s.cfg.rxBufBytes = true
  length : s.rxLen ≤ s.cfg.rxBufBytes
  overflow : s.rxOvf = true → s.rxLen = s.cfg.rxBufBytes

/-- A frame as `inq` holds it: validated, addressed here, no acknowledgment (R41, R262). -/
structure InboundFrame (c : Config) (f : Frame) : Prop where
  data : f.isAcknowledgment = false
  here : f.destination = c.myId
  header : headerSum f = f.headerChecksum
  body : checksum f.payload = f.payloadChecksum
  fits : f.payload.length ≤ c.maxPayload

/-- A frame as `cur` holds it: built by this endpoint and well formed (R21, R145, R146). -/
structure OwnFrame (c : Config) (f : Frame) : Prop where
  source : f.source = c.myId
  header : headerSum f = f.headerChecksum
  body : checksum f.payload = f.payloadChecksum
  fits : f.payload.length ≤ c.maxPayload
  ack : f.isAcknowledgment = true → f.payload = []

/-- The queues: bounded, and each entry as R41 says. -/
structure QueuesSound (s : State) : Prop where
  outBound : s.outq.length ≤ s.cfg.queueCap
  inBound : s.inq.length ≤ s.cfg.queueCap
  outFits : ∀ d ∈ s.outq, d.payload.length ≤ s.cfg.maxPayload
  inbound : ∀ f ∈ s.inq, InboundFrame s.cfg f

/-- The sequencer cursor within the wire bytes of `f` (R26). -/
structure CursorSound (s : State) (f : Frame) : Prop where
  index : s.txWidx ≤ (wire f).length
  atEnd : s.txWidx = (wire f).length → s.txPhase = .guard ∧ s.txCnt = 0
  bit : s.txBit ≤ 7
  guardCnt : s.txPhase = .guard → s.txCnt < s.cfg.guardTicks
  pulseCnt : s.txPhase ≠ .guard → s.txCnt < s.cfg.pulseTicks

/-- The transmit path (R21, R25, R26, R29, R31, R35, R37, R38, R42, R183, R224). -/
structure TransmitSound (s : State) : Prop where
  busy : s.txState = .sending ∨ s.txState = .awaitingAck ∨ s.txState = .failed → s.cur.isSome = true
  idle : s.txState = .idle → s.cur = none ∧ s.curIsAck = false ∧ s.retry = 0
  waiting : s.txState = .awaitingAck ∨ s.txState = .failed → s.curIsAck = false
  tag : ∀ f, s.cur = some f → f.isAcknowledgment = s.curIsAck
  own : ∀ f, s.cur = some f → OwnFrame s.cfg f
  number : ∀ f, s.cur = some f → s.curIsAck = false → f.sequenceNumber = s.framesSent
  cursor : ∀ f, s.txState = .sending → s.cur = some f → CursorSound s f
  retries : s.retry ≤ s.cfg.maxAttempts + 1
  retriesLeft : s.txState = .sending ∨ s.txState = .awaitingAck → s.retry ≤ s.cfg.maxAttempts
  ackRetry : s.curIsAck = true → s.retry = 0
  timer : s.ackTimer ≤ s.cfg.ackTimeoutTicks
  timerLeft : s.txState = .awaitingAck → s.ackTimer < s.cfg.ackTimeoutTicks
  rest : s.txState ≠ .sending → s.lineOut = .neutral
  flag : s.ackFlag = true → s.outstanding = true ∨ s.txState = .halted
  halt : s.txState = .halted → s.shutdown = true

/-- The receive path (R27, R28, R44, R164, R247). -/
structure ReceiveSound (s : State) : Prop where
  dwell : s.rxLowCnt ≤ s.cfg.dwellTicks
  bits : s.rxBit ≤ 8
  position : s.rxState = .data → s.rxBit < 8 ∧ s.rxCnt < s.samplePoint
  count : s.rxCnt ≤ 8 * s.cfg.pulseTicks + s.cfg.sampleOffset
  held : s.rxState = .deliver → ∃ u f, s.heldUnit = some u ∧ decodeFrame u = some f ∧
    verify f s.cfg.myId s.framesReceived = true
  halt : s.rxState = .halted → s.shutdown = true
  unmarked : s.rxState = .deliver → s.rxOvf = false

/-- The invariant of an endpoint that runs by itself, under a configuration of R10. -/
structure EndpointInv (s : State) : Prop where
  legal : s.cfg.legal = true
  own : s.opPort = none
  buffer : BufferSound s
  queues : QueuesSound s
  transmit : TransmitSound s
  receive : ReceiveSound s

/-- Every byte of `rx_buf` reads in `t` as in `s`. -/
def SameMemory (s t : State) : Prop := ∀ a, t.rxBuf.read a = s.rxBuf.read a

/-- RXP's step in `s` completes a byte that is data, and so stores it (R163, R189 to R191). -/
def State.stepStores (s : State) : Bool :=
  s.rxIn .data && decide (s.rxCnt + 1 = s.samplePoint) && decide (s.rxBit + 1 = bitsPerByte)
    && s.isDataByte (shiftIn s.rxShift (isHigh s.cfg s.lineIn))

/-- The operation may store bytes in `s`, or start the storage anew (`RESET`). -/
def mayStore (i : Instr) (s : State) : Bool :=
  match i with
  | .store _ | .reset => true
  | .unstuff b => s.isDataByte b
  | .literal b => !s.deaf && s.isDataByte b
  | .sentinel | .escape => !s.deaf && s.rxEsc
  | .escAny _ | .data _ _ _ _ _ _ | .ack _ _ _ _ _ => !s.deaf
  | .rxHalted _ | .rxHalt _ | .rxDeliver | .rxhunt | .rxdata | .rxstHunt | .rxstData | .rxstDeliver
  | .rxstHalted => s.stepStores
  | .slot _ | .lvlNeutral | .lvlHigh | .lvlLow | .escSentinel | .escEscape | .send _ _ | .recv
  | .shutdown | .ok _ | .wouldBlock _ | .cancelled _ | .tooLong | .txstIdle | .txstSending
  | .txstAwaitingAck | .txstFailed | .txstHalted | .dcNone | .dcOverflow | .dcUndersized
  | .dcDestinationMismatch | .dcSequenceMismatch | .dcHeaderChecksum | .dcPayloadChecksum
  | .dcDuplicate | .checksum _ | .encode _ | .decode _ | .verify _ _ _ | .finalize _ _ | .ackbuild _
  | .stuff _ | .wire _ | .txHalted _ | .txHalt _ | .txIdleAck | .txIdleData | .txIdleWait | .txseq
  | .txSent | .txAcked | .txWait | .txRetransmit | .txLimit | .txFailed | .unitend | .unit _
  | .rxOverflow | .rxUndersized | .rxAckmatch | .rxAccept | .rxInvalid | .rxDuplicate
  | .deliveryfailed => false

/-- The operations that store at most one byte, the one at `rx_len`: a received byte, and RXP's step. -/
def storesAtLength : Instr → Bool
  | .store _ | .unstuff _ | .literal _ | .sentinel | .escape | .rxHalted _ | .rxHalt _ | .rxDeliver
  | .rxhunt | .rxdata | .rxstHunt | .rxstData | .rxstDeliver | .rxstHalted => true
  | .escAny _ | .data _ _ _ _ _ _ | .ack _ _ _ _ _ | .reset | .slot _ | .lvlNeutral | .lvlHigh
  | .lvlLow | .escSentinel | .escEscape | .send _ _ | .recv | .shutdown | .ok _ | .wouldBlock _
  | .cancelled _ | .tooLong | .txstIdle | .txstSending | .txstAwaitingAck | .txstFailed | .txstHalted
  | .dcNone | .dcOverflow | .dcUndersized | .dcDestinationMismatch | .dcSequenceMismatch
  | .dcHeaderChecksum | .dcPayloadChecksum | .dcDuplicate | .checksum _ | .encode _ | .decode _
  | .verify _ _ _ | .finalize _ _ | .ackbuild _ | .stuff _ | .wire _ | .txHalted _ | .txHalt _
  | .txIdleAck | .txIdleData | .txIdleWait | .txseq | .txSent | .txAcked | .txWait | .txRetransmit
  | .txLimit | .txFailed | .unitend | .unit _ | .rxOverflow | .rxUndersized | .rxAckmatch | .rxAccept
  | .rxInvalid | .rxDuplicate | .deliveryfailed => false

/-- `t` is `s` but for bytes of `rx_buf` at or past `rx_len`, which have no meaning (R23, IU1); both buffers
are in canonical form. -/
structure SameToLength (s t : State) : Prop where
  canonical : s.rxBuf.wf = true ∧ t.rxBuf.wf = true
  registers : t = { s with rxBuf := t.rxBuf }
  bytes : ∀ a, a < s.rxLen → t.rxBuf.read a = s.rxBuf.read a

/-- Two outcomes that differ in nothing but bytes without meaning. -/
def SameOutcome : Host.Outcome State Fault Refusal → Host.Outcome State Fault Refusal → Prop
  | .next s, .next t => SameToLength s t
  | .fault e, .fault e' => e = e'
  | .refused e, .refused e' => e = e'
  | _, _ => False

/-- TXP is sending `f` and the sequencer stands at the first guard of its first wire byte (R182, R213,
R218). -/
structure AtFirstGuard (s : State) (f : Frame) : Prop where
  running : s.shutdown = false
  sending : s.txState = .sending
  frame : s.cur = some f
  index : s.txWidx = 0
  phase : s.txPhase = .guard
  count : s.txCnt = 0
  bit : s.txBit = 0

/-- The machine takes another step. -/
def GoesOn (s : State) : Prop := ∃ t, step s = .next t

end Sys2Proof.Machine
end

