-- ==== Sys2Proof/Certificates/Slice0/Obligations.lean ====
section
/-! DEFINITION. The statements about this model, for the provers; OBLIGATIONS.json lists them with the rules
they rest on. -/

open Sys2Proof Sys2Proof.Machine

/-! ### Codes -/

/-- Decoding what the encoder wrote gives the operation back, for every operand and in every condition that
selects its row (R125). -/
def Obligations.DecodeEncodeAgree : Prop :=
  ∀ (i : Instr) (cfg : Config) (c : Cond) (code : Code),
    i.WellFormed cfg = true → c.selects i = true → encode i = some code → decode c code = .ok i

/-- What the decoder reads is selected by the conditions it was given, and encodes to the same bits; a request
vector may hold more requests than the one read from it (R111, R125, R269). -/
def Obligations.EncodeDecodeAgree : Prop :=
  ∀ (c : Cond) (code : Code) (i : Instr), decode c code = .ok i →
    c.selects i = true ∧
      match code with
      | .hreq w _ _ => ∃ w' d p, encode i = some (.hreq w' d p) ∧ w' &&& w = w'
      | _ => encode i = some code

/-- Words written out from the rules' patterns (R101, R103 to R106, R111, R112, R115, R116, R282, R125). -/
def Obligations.SpecWordsDecode : Prop :=
  decode Cond.quiet (.slot 0b0110100101#10) = .ok (.slot 0xA5) ∧
  decode Cond.quiet (.lvl 0b00#2) = .ok .lvlNeutral ∧
  decode Cond.quiet (.lvl 0b01#2) = .ok .lvlHigh ∧
  decode Cond.quiet (.lvl 0b10#2) = .ok .lvlLow ∧
  decode Cond.quiet (.wbyte 0b01111110#8) = .ok .sentinel ∧
  decode Cond.quiet (.wbyte 0b01111101#8) = .ok .escape ∧
  decode { Cond.quiet with rxEsc := true } (.wbyte 0b01111110#8) = .ok (.literal 0x7E) ∧
  decode Cond.quiet (.wpairTx 0b0111110101111110#16) = .ok .escSentinel ∧
  decode Cond.quiet (.wpairTx 0b0111110101111101#16) = .ok .escEscape ∧
  decode Cond.quiet (.wpairRx 0b0111110101000001#16) = .ok (.escAny 0x41) ∧
  decode Cond.quiet (.hdr 0x010201FB8A#40 [0x48, 0x45, 0x4C, 0x4C, 0x4F]) =
    .ok (.data 1 2 1 0xFB 0x8A [0x48, 0x45, 0x4C, 0x4C, 0x4F]) ∧
  decode { Cond.quiet with ackMatched := true } (.hdr 0x020101FBFF#40 []) =
    .ok (.ack 2 1 1 0xFB 0xFF) ∧
  decode Cond.quiet (.hreq 0b0001#4 2 [0x41]) = .ok (.send 2 [0x41]) ∧
  decode Cond.quiet (.hreq 0b0010#4 0 []) = .ok .recv ∧
  decode Cond.quiet (.hrsp .send 0b011#3) = .ok .tooLong ∧
  decode Cond.quiet (.txst 0b010#3) = .ok .txstAwaitingAck ∧
  decode Cond.quiet (.rxst 0b10#2) = .ok .rxstDeliver ∧
  decode Cond.quiet (.dcause 0b111#3) = .ok .dcDuplicate ∧
  decode Cond.quiet (.txstep 0b1100#4) = .ok (.txHalted true) ∧
  decode Cond.quiet (.txstep 0b1001#4) = .ok (.txHalt .sending) ∧
  decode Cond.quiet (.txstep 0b0000#4) = .ok .txIdleWait ∧
  decode Cond.quiet (.rxstep 0b001#3) = .ok .rxdata

/-- Codes that are never produced or never occur are refused by name: level `11`, answers 4 to 7, a `TooLong`
that answers `RECV`, state codes 5 to 7, the all-zero request vector, a transmitted pair other than the two of
R105, ten intervals that are no slot. That the decoder refuses them is the model's choice (log entry 25). -/
def Obligations.ReservedCodesRefused : Prop :=
  ∀ c : Cond,
    decode c (.lvl 3) = .error .levelReserved ∧
    (∀ call (w : BitVec 3), 4 ≤ w.toNat → decode c (.hrsp call w) = .error .answerReserved) ∧
    decode c (.hrsp .recv 3) = .error .answerReserved ∧
    (∀ w : BitVec 3, 5 ≤ w.toNat → decode c (.txst w) = .error .txStateReserved) ∧
    (∀ w : BitVec 4, 5 ≤ w.toNat % 8 → decode c (.txstep w) = .error .txStateReserved) ∧
    (∀ d p, decode c (.hreq 0 d p) = .error .noRequest) ∧
    (∀ w : BitVec 16, w ≠ 0x7D7E → w ≠ 0x7D7D → decode c (.wpairTx w) = .error .notPair) ∧
    ∀ w : BitVec 10, w.toNat / 256 ≠ 1 → decode c (.slot w) = .error .notSlot

/-! ### The step -/

/-- A step runs the operation the decoder reads from the code whose turn it is: a code presented for single
execution, the requests on the port, RXP's and TXP's control words (R80, R125; log entry 7). What a step adds:
the presented code is used up, the request is taken from the port, the turn goes on. -/
def Obligations.StepRunsDecoded : Prop :=
  ∀ (s : State) (i : Instr), s.cfg.legal = true →
    (∀ o, s.opPort = some o → decodeTableWord o.nbits o.word = some i →
      step s = exec i { s with opPort := none }) ∧
    (s.opPort = none →
      (s.turn = .host → s.hReq ≠ 0 → decode s.cond (.hreq s.hReq s.hDst s.hPayload) = .ok i →
        step s = exec i (s.afterRequest i)) ∧
      (s.turn = .host → s.hReq = 0 → step s = .next { s with turn := .rxp }) ∧
      (s.turn = .rxp → decode s.cond (.rxstep (BitVec.ofBool s.shutdown ++ s.rxState.code)) = .ok i →
        step s = exec i { s with turn := .txp }) ∧
      (s.turn = .txp → decode s.cond (.txstep (BitVec.ofBool s.shutdown ++ s.txState.code)) = .ok i →
        step s = exec i { s with turn := .line }))

/-- The steps of one tick together do what R80 says of the tick: LINE, HOST's requests in their order, RXP,
TXP. -/
def Obligations.TickIsLineHostRxpTxp : Prop :=
  ∀ s : State, s.cfg.legal = true → s.opPort = none → s.turn = .line →
    Host.Core.run core s.stepsOfTick s = tick s

/-- Every step keeps the invariant, from every state that has it. -/
def Obligations.StepKeepsInvariant : Prop :=
  ∀ s t : State, EndpointInv s → step s = .next t → EndpointInv t

/-- The state right after reset has the invariant, under every legal configuration. -/
def Obligations.ResetHasInvariant : Prop :=
  EndpointInv State.reset ∧ ∀ c : Config, c.legal = true →
    State.boot c = .next (State.resetWith c) ∧ EndpointInv (State.resetWith c)

/-- The rules are total: from a state with the invariant every step goes on, whatever the LINE and the HOST
choose (R281, R295). -/
def Obligations.StepNeverStops : Prop :=
  ∀ s : State, EndpointInv s → ∃ t, step s = .next t

/-- The row that a path's control word selects does what the path's dispatch does (R210, R240), in every state;
the row of the state code does the same (log entry 11); and from a state with the invariant it completes. -/
def Obligations.SelectedRowIsPathStep : Prop :=
  ∀ (s : State) (i j : Instr),
    (decode s.cond (.txstep (BitVec.ofBool s.shutdown ++ s.txState.code)) = .ok i →
      decode s.cond (.txst s.txState.code) = .ok j →
      exec i s = txpStep s ∧ exec j s = txpStep s ∧ (EndpointInv s → ∃ t, exec j s = .next t)) ∧
    (decode s.cond (.rxstep (BitVec.ofBool s.shutdown ++ s.rxState.code)) = .ok i →
      decode s.cond (.rxst s.rxState.code) = .ok j →
      exec i s = rxpStep s ∧ exec j s = rxpStep s ∧ (EndpointInv s → ∃ t, exec j s = .next t))

/-- The nine state-code rows complete, with the path's step as their effect (R115, R116, R210, R240; log entry
11); at another state than the row's own the dispatch decides all the same (log entry 10). -/
def Obligations.StateCodeRowsComplete : Prop :=
  ∀ s : State, EndpointInv s →
    (∃ t, txpStep s = .next t ∧
      ∀ row ∈ [Instr.txstIdle, .txstSending, .txstAwaitingAck, .txstFailed, .txstHalted],
        exec row s = .next t) ∧
    ∃ t, rxpStep s = .next t ∧
      ∀ row ∈ [Instr.rxstHunt, .rxstData, .rxstDeliver, .rxstHalted], exec row s = .next t

/-! ### Whole-machine rules -/

/-- Who writes what (R48): the writes of each agent's turn. -/
def Obligations.OwnershipTable : Prop :=
  ∀ s t : State, s.opPort = none → step s = .next t →
    -- only TXP writes these; RESET aside
    (s.turn ≠ .txp → ¬(s.turn = .host ∧ s.hReq.getLsbD 3 = true) →
      t.cur = s.cur ∧ t.curIsAck = s.curIsAck ∧ t.txState = s.txState ∧ t.framesSent = s.framesSent ∧
      t.retry = s.retry ∧ t.ackTimer = s.ackTimer ∧ t.txWidx = s.txWidx ∧ t.txPhase = s.txPhase ∧
      t.txCnt = s.txCnt ∧ t.txBit = s.txBit ∧ t.lineOut = s.lineOut ∧ t.failSticky = s.failSticky) ∧
    -- only RXP writes these
    (s.turn ≠ .rxp → ¬(s.turn = .host ∧ s.hReq.getLsbD 3 = true) →
      t.framesReceived = s.framesReceived ∧ t.rxBuf = s.rxBuf ∧ t.rxLen = s.rxLen ∧
      t.rxShift = s.rxShift ∧ t.rxState = s.rxState ∧ t.rxLowCnt = s.rxLowCnt ∧ t.rxCnt = s.rxCnt ∧
      t.rxBit = s.rxBit ∧ t.rxEsc = s.rxEsc ∧ t.rxOvf = s.rxOvf) ∧
    -- RXP sets the flag, posts the acknowledgment, adds to inq
    (s.turn = .rxp → (s.ackFlag = true → t.ackFlag = true) ∧
      (t.pendingAck = s.pendingAck ∨ t.pendingAck.isSome = true) ∧ (∃ l, t.inq = s.inq ++ l) ∧
      t.outq = s.outq ∧ t.shutdown = s.shutdown) ∧
    -- TXP clears the flag, takes the acknowledgment, takes from outq
    (s.turn = .txp → (t.ackFlag = true → s.ackFlag = true) ∧
      (t.pendingAck = s.pendingAck ∨ t.pendingAck = none) ∧ (∃ l, s.outq = l ++ t.outq) ∧
      t.inq = s.inq ∧ t.shutdown = s.shutdown) ∧
    -- HOST adds to outq, takes from inq, sets shutdown
    (s.turn = .host → s.hReq.getLsbD 3 = false → t.ackFlag = s.ackFlag ∧ t.pendingAck = s.pendingAck ∧
      (∃ l, t.outq = s.outq ++ l) ∧ (∃ l, s.inq = l ++ t.inq) ∧
      (s.shutdown = true → t.shutdown = true)) ∧
    -- LINE writes no register
    (s.turn = .line → t.ackFlag = s.ackFlag ∧ t.pendingAck = s.pendingAck ∧ t.outq = s.outq ∧
      t.inq = s.inq ∧ t.shutdown = s.shutdown)

/-- No step changes a frame that `cur` holds, nor the configuration (R21, R39, R87). That the configuration
stands in the state is log entry 1. -/
def Obligations.HeldFrameImmutable : Prop :=
  ∀ s t : State, EndpointInv s → step s = .next t →
    t.cfg = s.cfg ∧ ∀ f g, s.cur = some f → t.cur = some g → f = g

/-- A halted path is left by `RESET` alone, which also is the only way to clear `shutdown` and `fail_sticky`;
while TXP is halted the line is NEUTRAL (R221, R250, R320). -/
def Obligations.HaltedUntilReset : Prop :=
  ∀ s t : State, EndpointInv s → step s = .next t → ¬(s.turn = .host ∧ s.hReq.getLsbD 3 = true) →
    (s.txState = .halted → t.txState = .halted ∧ t.lineOut = .neutral ∧ t.cur = s.cur) ∧
    (s.rxState = .halted → t.rxState = .halted ∧ t.rxLen = s.rxLen ∧ t.rxBuf = s.rxBuf ∧ t.rxEsc = s.rxEsc) ∧
    (s.shutdown = true → t.shutdown = true) ∧
    (s.failSticky = true → t.failSticky = true)

/-- The transition table of the transmit path, and that no other transition occurs (R222). -/
def Obligations.TransmitTransitionTable : Prop :=
  ∀ s t : State, EndpointInv s → step s = .next t →
    (s.turn = .txp →
      (s.txState = .halted → t.txState = .halted) ∧
      (s.txState ≠ .halted → s.shutdown = true → t.txState = .halted) ∧
      (s.shutdown = false →
        (s.txState = .idle → s.pendingAck.isSome = true → t.txState = .sending ∧ t.curIsAck = true) ∧
        (s.txState = .idle → s.pendingAck = none → s.outq ≠ [] →
          t.txState = .sending ∧ t.curIsAck = false) ∧
        (s.txState = .idle → s.pendingAck = none → s.outq = [] → t.txState = .idle) ∧
        (∀ f, s.txState = .sending → s.cur = some f → s.txWidx ≠ (wire f).length →
          t.txState = .sending) ∧
        (∀ f, s.txState = .sending → s.cur = some f → s.txWidx = (wire f).length →
          t.txState = if s.curIsAck then .idle else .awaitingAck) ∧
        (s.txState = .awaitingAck → s.ackFlag = true → t.txState = .idle) ∧
        (s.txState = .awaitingAck → s.ackFlag = false → s.ackTimer + 1 < s.cfg.ackTimeoutTicks →
          t.txState = .awaitingAck) ∧
        (s.txState = .awaitingAck → s.ackFlag = false → s.cfg.ackTimeoutTicks ≤ s.ackTimer + 1 →
          t.txState = if s.retry + 1 ≤ s.cfg.maxAttempts then .sending else .failed) ∧
        (s.txState = .failed → t.txState = .idle))) ∧
    (s.turn ≠ .txp → t.txState = s.txState ∨
      s.turn = .host ∧ s.hReq.getLsbD 3 = true ∧ t.txState = .idle)

/-- Sequence numbers count. `framesSent` moves, by one, exactly where a descriptor leaves `outq`, and the frame
carries the new number (R35, R213, R224). `framesReceived` moves, by one, exactly where a frame is accepted: the
frame is addressed here, carries the new number, has its source and number in `pendingAck`, and either enters
`inq` or is held in `Deliver`; where `framesReceived` stays, no frame is accepted: `Deliver` is not entered, and
`inq` gains nothing but a frame that was accepted before and held in `Deliver` (R36, R246, R247). -/
def Obligations.NumbersAreConsecutive : Prop :=
  ∀ s t : State, EndpointInv s → step s = .next t → ¬(s.turn = .host ∧ s.hReq.getLsbD 3 = true) →
    ((t.framesSent = s.framesSent ∧ (s.turn = .txp → t.outq = s.outq)) ∨
      (t.framesSent = s.framesSent + 1 ∧ s.turn = .txp ∧ ∃ d, s.outq = d :: t.outq ∧
        t.cur = some (finalize d s.cfg.myId t.framesSent))) ∧
    ((t.framesReceived = s.framesReceived ∧ (t.rxState = .deliver → s.rxState = .deliver) ∧
        ((∃ l, s.inq = l ++ t.inq) ∨
          s.turn = .rxp ∧ s.rxState = .deliver ∧ ∃ u f, s.heldUnit = some u ∧ decodeFrame u = some f ∧
            t.inq = s.inq ++ [{ f with isAcknowledgment := false }])) ∨
      (t.framesReceived = s.framesReceived + 1 ∧ s.turn = .rxp ∧ s.rxState = .data ∧
        ∃ f : Frame, f.destination = s.cfg.myId ∧ f.sequenceNumber = t.framesReceived ∧
          t.pendingAck = some { destination := f.source, sequence := f.sequenceNumber } ∧
          (t.inq = s.inq ++ [f] ∧ t.rxState = .hunt ∨
            t.inq = s.inq ∧ t.rxState = .deliver ∧ ∃ u g, t.heldUnit = some u ∧ decodeFrame u = some g ∧
              f = { g with isAcknowledgment := false })))

/-- No lost wake: a signal that RXP raises while TXP waits ends the wait in the same tick, whatever the timer
says (R84, R292). -/
def Obligations.SignalWakesInSameTick : Prop :=
  ∀ s u : State, EndpointInv s → s.turn = .rxp → s.txState = .awaitingAck → s.shutdown = false →
    step s = .next u → u.ackFlag = true →
    ∃ t, step u = .next t ∧ t.txState = .idle ∧ t.cur = none ∧ t.ackFlag = false ∧ t.retry = 0 ∧
      t.ackTimer = s.ackTimer

/-- Bytes of `rx_buf` at `rx_len` and above are read by no rule: states that differ in them alone behave alike
(R23, IU1). -/
def Obligations.UnreadBytesUnobservable : Prop :=
  ∀ s t : State, SameToLength s t →
    SameOutcome (step s) (step t) ∧ ∀ i : Instr, SameOutcome (exec i s) (exec i t)

/-- Every byte of `rx_buf` reads as before, but the bytes an operation stores: a received byte that is data, and
RXP's step where it completes one, write at `rx_len`, and nowhere at the capacity (R162, R163, R189); a pair
received behind an escape writes at `rx_len` and the index after it; a unit handed over whole is stored from
index 0 on. `RESET` leaves `rx_len` at 0, so that no stored byte has a meaning (R23, R320); what the bytes then
read as is the model's choice (log entries 2 and 18). -/
def Obligations.MemoryFrame : Prop :=
  ∀ s t : State,
    (∀ i : Instr, mayStore i s = false → exec i s = .next t → SameMemory s t) ∧
    (exec .reset s = .next t → t.rxLen = 0) ∧
    ∀ a : Nat,
      (∀ i : Instr, storesAtLength i = true → exec i s = .next t →
        (a ≠ s.rxLen ∨ s.cfg.rxBufBytes ≤ s.rxLen) → t.rxBuf.read a = s.rxBuf.read a) ∧
      (∀ b, exec (.escAny b) s = .next t → a ≠ s.rxLen → a ≠ s.rxLen + 1 →
        t.rxBuf.read a = s.rxBuf.read a) ∧
      (∀ src dst seq hcs pcs payload, exec (.data src dst seq hcs pcs payload) s = .next t →
        min (headerBytes + payload.length) s.cfg.rxBufBytes ≤ a → t.rxBuf.read a = s.rxBuf.read a) ∧
      (∀ src dst seq hcs pcs, exec (.ack src dst seq hcs pcs) s = .next t → headerBytes ≤ a →
        t.rxBuf.read a = s.rxBuf.read a)

/-- A path takes the step its dispatch chooses, whichever of its rows is executed: the row's own effect where its
condition holds (R210, R240), the dispatched one elsewhere, for every row of `TXSTEP`, `TXST`, `RXSTEP` and
`RXST`, every operand and every state. A report out of `Failed`, or under shutdown, raises nothing (R211, R265).
That an unselected row does so is the model's choice (log entry 10). -/
def Obligations.RowsDoTheirPathsStep : Prop :=
  ∀ s : State,
    (∀ x, exec (.txHalted x) s = txpStep s) ∧ (∀ st, exec (.txHalt st) s = txpStep s) ∧
    (∀ row ∈ [Instr.txIdleAck, .txIdleData, .txIdleWait, .txseq, .txSent, .txAcked, .txWait, .txRetransmit,
      .txLimit, .txFailed, .txstIdle, .txstSending, .txstAwaitingAck, .txstFailed, .txstHalted],
      exec row s = txpStep s) ∧
    (∀ x, exec (.rxHalted x) s = rxpStep s) ∧ (∀ st, exec (.rxHalt st) s = rxpStep s) ∧
    (∀ row ∈ [Instr.rxDeliver, .rxhunt, .rxdata, .rxstHunt, .rxstData, .rxstDeliver, .rxstHalted],
      exec row s = rxpStep s) ∧
    (s.txState ≠ .failed ∨ s.shutdown = true → exec .deliveryfailed s = .next s)

/-! ### Frame codec -/

/-- The laws of the checksum, which R141 infers from R140: its (1) to (3), and that the order of the bytes
does not matter. -/
def Obligations.ChecksumLaws : Prop :=
  ∀ buf : List Byte,
    ((buf.map BitVec.toNat).sum % 65536 = 0 → checksum buf = 0xFF) ∧
    (0 < (buf.map BitVec.toNat).sum % 65536 → (buf.map BitVec.toNat).sum % 65536 % 255 = 0 →
      checksum buf = 0x00) ∧
    ((buf.map BitVec.toNat).sum % 65536 % 255 ≠ 0 →
      (checksum buf).toNat = 255 - (buf.map BitVec.toNat).sum % 65536 % 255) ∧
    ∀ buf' : List Byte, buf.Perm buf' → checksum buf' = checksum buf

/-- Every flip of one bit of an encoded frame with right checksums is caught by `verify`: R147 (2), which the
spec infers from R140 to R146. -/
def Obligations.SingleBitErrorsCaught : Prop :=
  ∀ (f g : Frame) (i k : Nat), headerSum f = f.headerChecksum → checksum f.payload = f.payloadChecksum →
    (f.isAcknowledgment = true → f.payload = []) → i < (encodeFrame f).length → k < 8 →
    decodeFrame ((encodeFrame f).modify i fun b => b ^^^ (1#8 <<< k)) = some g →
    verify g f.destination f.sequenceNumber = false

/-- Valid frames validate: a frame with right checksums is recovered from its encoding, its type told by its
length, and verifies; the frames this endpoint builds have right checksums (R147 (1), which the spec infers from
R140 to R146). -/
def Obligations.ValidFramesValidate : Prop :=
  (∀ f : Frame, headerSum f = f.headerChecksum → checksum f.payload = f.payloadChecksum →
    (f.isAcknowledgment = true → f.payload = []) →
    decodeFrame (encodeFrame f) = some { f with isAcknowledgment := decide (f.payload = []) } ∧
    ∀ g, decodeFrame (encodeFrame f) = some g → verify g f.destination f.sequenceNumber = true) ∧
  (∀ d myId n, headerSum (finalize d myId n) = (finalize d myId n).headerChecksum ∧
    checksum (finalize d myId n).payload = (finalize d myId n).payloadChecksum) ∧
  (∀ p myId, headerSum (ackbuild p myId) = (ackbuild p myId).headerChecksum ∧
    checksum (ackbuild p myId).payload = (ackbuild p myId).payloadChecksum)

/-- The pure functions return what R140, R142 to R146, R160 and R161 say, and write no register; the value is
shown on the model's own output, which `present` writes alone (log entry 8). `DECODE` of fewer than 5 bytes,
which R143 excludes, stops. That stop is the model's choice (log entry 21). -/
def Obligations.PureFunctionRows : Prop :=
  ∀ s : State,
    (∀ v, s.present v = { s with out := { s.out with value := v } }) ∧
    (∀ buf, exec (.checksum buf) s = .next (s.present (.byte (checksum buf)))) ∧
    (∀ f, exec (.encode f) s = .next (s.present (.bytes
      ([f.source, f.destination, f.sequenceNumber, f.headerChecksum, f.payloadChecksum] ++
        if f.isAcknowledgment then [] else f.payload)))) ∧
    (∀ a b c d e rest, exec (.decode (a :: b :: c :: d :: e :: rest)) s = .next (s.present (.frame
      { source := a
        destination := b
        sequenceNumber := c
        headerChecksum := d
        payloadChecksum := e
        payload := rest
        isAcknowledgment := decide (rest = []) }))) ∧
    (∀ u : List Byte, u.length < 5 → exec (.decode u) s = .fault .shortUnit) ∧
    (∀ f d n, exec (.verify f d n) s = .next (s.present (.bool
      (decide (f.destination = d ∧ f.sequenceNumber = n ∧
        checksum [f.source, f.destination, f.sequenceNumber] = f.headerChecksum ∧
        checksum f.payload = f.payloadChecksum))))) ∧
    (∀ d n, exec (.finalize d n) s = .next (s.present (.frame
      { source := s.cfg.myId
        destination := d.destination
        sequenceNumber := n
        payload := d.payload
        headerChecksum := checksum [s.cfg.myId, d.destination, n]
        payloadChecksum := checksum d.payload
        isAcknowledgment := false }))) ∧
    (∀ p, exec (.ackbuild p) s = .next (s.present (.frame
      { source := s.cfg.myId
        destination := p.destination
        sequenceNumber := p.sequence
        payload := []
        headerChecksum := checksum [s.cfg.myId, p.destination, p.sequence]
        payloadChecksum := 0xFF
        isAcknowledgment := true }))) ∧
    (∀ buf, exec (.stuff buf) s = .next (s.present (.bytes
      (buf.flatMap fun b => if b = 0x7E ∨ b = 0x7D then [0x7D, b] else [b])))) ∧
    (∀ f, exec (.wire f) s = .next (s.present (.bytes (stuff (encodeFrame f) ++ [0x7E]))))

/-! ### Framer -/

/-- Stuffing and unstuffing, as R165 infers it from R160 to R164: (1) bytes without `0x7E` and `0x7D` are sent
as they are; (2) exactly one escape goes before each occurrence, and the framer recovers the sequence with
`rx_esc = 0` and no unit ended on the way; (3) the wire bytes of a frame end exactly one unit, at their last
byte, and it is the frame's encoding. -/
def Obligations.StuffingRoundTrip : Prop :=
  (∀ l : List Byte, (∀ b ∈ l, b ≠ 0x7E ∧ b ≠ 0x7D) → stuff l = l) ∧
  (∀ l : List Byte, stuff l = l.flatMap fun b => if b = 0x7E ∨ b = 0x7D then [0x7D, b] else [b]) ∧
  (∀ (s : State) (l : List Byte), s.rxBuf.wf = true → s.rxEsc = false → s.rxLen = 0 →
    l.length ≤ s.cfg.rxBufBytes →
    ∃ t, receiveBytes (stuff l) s = .next t ∧ t.heldUnit = some l ∧
      t = { s with rxBuf := t.rxBuf, rxLen := l.length }) ∧
  (∀ (s : State) (f : Frame), s.rxBuf.wf = true → s.rxEsc = false → s.rxOvf = false → s.rxLen = 0 →
    (encodeFrame f).length ≤ s.cfg.rxBufBytes →
    ∃ t, receiveBytes (stuff (encodeFrame f)) s = .next t ∧ t.heldUnit = some (encodeFrame f) ∧
      t = { s with rxBuf := t.rxBuf, rxLen := (encodeFrame f).length } ∧
      receiveBytes (wire f) s = exec .unitend t)

/-- Length bounds of the wire bytes, as R166 infers them from R140, R160 and R161. -/
def Obligations.WireLengthBounds : Prop :=
  (∀ f : Frame, (encodeFrame f).length + 1 ≤ (wire f).length ∧
    (wire f).length ≤ 2 * (encodeFrame f).length + 1) ∧
  (∀ p myId, (encodeFrame (ackbuild p myId)).getLast? = some 0xFF ∧
    6 ≤ (wire (ackbuild p myId)).length ∧ (wire (ackbuild p myId)).length ≤ 9) ∧
  (∀ a b c : Byte, (a = 0x7E ∨ a = 0x7D) → (b = 0x7E ∨ b = 0x7D) → (c = 0x7E ∨ c = 0x7D) →
    checksum [a, b, c] ∈ [0x84, 0x85, 0x86, 0x87]) ∧
  wire (ackbuild { destination := 0x7D, sequence := 0x7D } 0x7D) =
    [0x7D, 0x7D, 0x7D, 0x7D, 0x7D, 0x7D, 0x87, 0xFF, 0x7E] ∧
  ∀ f : Frame, f.payload.length ≤ 1500 → (wire f).length ≤ 3011

/-- A received wire byte or pair, by its class (R104, R119): an escape arms the next byte, a literal is stored
at `rx_len` or dropped with the overflow mark (R163), the sentinel ends the unit; the byte after an escape is
data whatever it is; an escape that is itself escaped is stored and the byte after it has its ordinary class.
A byte that is not in the row's class has the class R162 gives it (log entry 10): `0x7D` and `0x7E` are data
after an escape, and escape and sentinel without one. Where RXP does not listen the bytes are lost (R247, R250;
log entry 12). -/
def Obligations.ReceivedByteRows : Prop :=
  ∀ (s : State) (b : Byte),
    (s.deaf = true → exec .sentinel s = .next s ∧ exec .escape s = .next s ∧
      exec (.literal b) s = .next s ∧ exec (.escAny b) s = .next s) ∧
    (s.deaf = false → s.rxEsc = false →
      exec .escape s = .next { s with rxEsc := true } ∧
      (s.rxLen ≤ s.cfg.rxBufBytes →
        exec .sentinel s = exec .unitend s ∧ ∃ t, exec .sentinel s = .next t) ∧
      exec (.literal 0x7D) s = exec .escape s ∧ exec (.literal 0x7E) s = exec .sentinel s ∧
      (s.rxLen < s.cfg.rxBufBytes → exec (.escAny b) s =
        .next { s with rxEsc := false, rxBuf := s.rxBuf.write s.rxLen b, rxLen := s.rxLen + 1 }) ∧
      (s.cfg.rxBufBytes ≤ s.rxLen → exec (.escAny b) s = .next { s with rxOvf := true })) ∧
    (s.deaf = false → s.rxEsc = true ∨ b ≠ 0x7D ∧ b ≠ 0x7E →
      (s.rxLen < s.cfg.rxBufBytes → exec (.literal b) s =
        .next { s with rxEsc := false, rxBuf := s.rxBuf.write s.rxLen b, rxLen := s.rxLen + 1 }) ∧
      (s.cfg.rxBufBytes ≤ s.rxLen →
        exec (.literal b) s = .next { s with rxEsc := false, rxOvf := true })) ∧
    (s.deaf = false → s.rxEsc = true →
      exec .escape s = exec (.literal 0x7D) s ∧ exec .sentinel s = exec (.literal 0x7E) s ∧
      (s.rxLen < s.cfg.rxBufBytes →
        (∃ t, exec (.escAny b) s = .next t) ∧
        exec (.escAny b) s = exec (.unstuff b)
          { s with rxEsc := false, rxBuf := s.rxBuf.write s.rxLen 0x7D, rxLen := s.rxLen + 1 }) ∧
      (s.cfg.rxBufBytes ≤ s.rxLen →
        exec (.escAny b) s = exec (.unstuff b) { s with rxEsc := false, rxOvf := true }))

/-- `UNSTUFF`: the four classes in their order (R162). -/
def Obligations.UnstuffClassifies : Prop :=
  ∀ (s : State) (b : Byte), s.rxLen ≤ s.cfg.rxBufBytes →
    (∃ t, exec (.unstuff b) s = .next t) ∧
    (s.rxEsc = true → exec (.unstuff b) s = exec (.store b) { s with rxEsc := false }) ∧
    (s.rxEsc = false → b = 0x7D → exec (.unstuff b) s = .next { s with rxEsc := true }) ∧
    (s.rxEsc = false → b = 0x7E → exec (.unstuff b) s = exec .unitend s) ∧
    (s.rxEsc = false → b ≠ 0x7D → b ≠ 0x7E → exec (.unstuff b) s = exec (.store b) s)

/-- `STORE`: below the capacity the byte lands at index `rx_len` and can be read there, no other byte changes;
at the capacity it is dropped and the unit marked (R163). -/
def Obligations.StoreBounded : Prop :=
  ∀ (s : State) (b : Byte),
    (s.rxLen < s.cfg.rxBufBytes →
      ∃ t, exec (.store b) s = .next t ∧ t = { s with rxBuf := t.rxBuf, rxLen := s.rxLen + 1 } ∧
        (s.rxBuf.wf = true → t.rxBuf.read s.rxLen = b ∧ t.rxBuf.wf = true) ∧
        ∀ a, a ≠ s.rxLen → t.rxBuf.read a = s.rxBuf.read a) ∧
    (s.cfg.rxBufBytes ≤ s.rxLen → exec (.store b) s = .next { s with rxOvf := true })

/-- `UNITEND` clears the mark and hands the unit over in the same step; the buffer is released at once, or kept
while RXP waits in `Deliver` (R164, R241). -/
def Obligations.UnitEndHandsOver : Prop :=
  ∀ s : State, s.rxLen ≤ s.cfg.rxBufBytes →
    exec .unitend s = exec (.unit s.rxOvf) { s with rxOvf := false } ∧
    ∃ t, exec .unitend s = .next t ∧ t.rxOvf = false ∧ SameMemory s t ∧
      (t.rxLen = 0 ∧ t.rxState = s.rxState ∨ t.rxLen = s.rxLen ∧ t.rxState = .deliver)

/-! ### Handling of a unit -/

/-- What each outcome of the handling of a unit writes, and that it writes nothing else (R251, R241). That the
row has this effect in any state of RXP is log entry 26. -/
def Obligations.UnitOutcomeTable : Prop :=
  ∀ (s : State) (u : List Byte), s.heldUnit = some u →
    exec (.unit true) s = .next { s with rxLen := 0, out := { s.out with cause := some .overflow } } ∧
    (u.length < 5 → exec (.unit false) s =
      .next { s with rxLen := 0, out := { s.out with cause := some .undersized } }) ∧
    ∀ f, decodeFrame u = some f →
      (s.ackMatches u = true → exec (.unit false) s =
        .next { s with ackFlag := true, rxLen := 0, out := { s.out with cause := some .acted } }) ∧
      (s.ackMatches u = false →
        (verify f s.cfg.myId (s.framesReceived + 1) = true → s.inq.length < s.cfg.queueCap →
          exec (.unit false) s = .next
            { s with
              framesReceived := s.framesReceived + 1
              pendingAck := some { destination := f.source, sequence := f.sequenceNumber }
              inq := s.inq ++ [{ f with isAcknowledgment := false }]
              rxLen := 0
              out := { s.out with cause := some .acted } }) ∧
        (verify f s.cfg.myId (s.framesReceived + 1) = true → s.cfg.queueCap ≤ s.inq.length →
          exec (.unit false) s = .next
            { s with
              framesReceived := s.framesReceived + 1
              pendingAck := some { destination := f.source, sequence := f.sequenceNumber }
              rxState := .deliver
              out := { s.out with cause := some .acted } }) ∧
        (verify f s.cfg.myId s.framesReceived = true →
          exec (.unit false) s = .next
            { s with
              pendingAck :=
                if s.cfg.dupReack then some { destination := f.source, sequence := f.sequenceNumber }
                else s.pendingAck
              rxLen := 0
              out := { s.out with cause := some .duplicate } }) ∧
        (verify f s.cfg.myId (s.framesReceived + 1) = false → verify f s.cfg.myId s.framesReceived = false →
          ∃ c ∈ [DiscardCause.destinationMismatch, .sequenceMismatch, .headerChecksum, .payloadChecksum],
            exec (.unit false) s = .next { s with rxLen := 0, out := { s.out with cause := some c } }))

/-- The acknowledgment test (R241, R244): five bytes, a data frame outstanding, destination, number and both
checksums right, the acknowledger's identifier any; a unit that passes it signals TXP and does nothing else. -/
def Obligations.AcknowledgmentSignals : Prop :=
  ∀ (s : State) (u : List Byte),
    (s.ackMatches u = true ↔
      (s.txState = .sending ∨ s.txState = .awaitingAck) ∧ s.curIsAck = false ∧
        ∃ f a, s.cur = some f ∧ u = [a, s.cfg.myId, f.sequenceNumber,
          checksum [a, s.cfg.myId, f.sequenceNumber], 0xFF]) ∧
    (s.heldUnit = some u → s.ackMatches u = true → exec .rxAckmatch s =
      .next { s with ackFlag := true, rxLen := 0, out := { s.out with cause := some .acted } })

/-- What becomes of a unit that did not overflow is decided by R241's tests alone, whichever of the five outcome
rows is executed: each completes, with what `UNIT` does. That a row the tests do not select does so is the
model's choice (log entry 10). -/
def Obligations.OutcomeRowsFollowTests : Prop :=
  ∀ s : State, s.rxLen ≤ s.cfg.rxBufBytes →
    exec (.unit true) s = exec .rxOverflow s ∧
    ∃ t, exec (.unit false) s = .next t ∧
      ∀ row ∈ [Instr.rxUndersized, .rxAckmatch, .rxAccept, .rxInvalid, .rxDuplicate], exec row s = .next t

/-- Units that are not frames: an overflowed unit is dropped whatever its stored bytes are (R242), and so are
fewer than five bytes, the empty unit included (R243); no other register changes. -/
def Obligations.MalformedUnitsDiscarded : Prop :=
  ∀ s : State,
    exec .rxOverflow s = .next { s with rxLen := 0, out := { s.out with cause := some .overflow } } ∧
    (s.rxLen ≤ s.cfg.rxBufBytes → exec (.unit true) s = exec .rxOverflow s) ∧
    (s.rxLen < 5 →
      exec .rxUndersized s = .next { s with rxLen := 0, out := { s.out with cause := some .undersized } } ∧
      exec (.unit false) s = exec .rxUndersized s)

/-- `RX_ACCEPT`: count, post the acknowledgment, then deliver, or wait in `Deliver` with the unit kept where
`inq` is full (R246). -/
def Obligations.AcceptDelivers : Prop :=
  ∀ (s : State) (u : List Byte) (f : Frame), s.heldUnit = some u → s.ackMatches u = false →
    decodeFrame u = some f → f.destination = s.cfg.myId → f.sequenceNumber = s.framesReceived + 1 →
    checksum [f.source, f.destination, f.sequenceNumber] = f.headerChecksum →
    checksum f.payload = f.payloadChecksum →
    exec .rxAccept s = .next
      { s with
        framesReceived := s.framesReceived + 1
        pendingAck := some { destination := f.source, sequence := f.sequenceNumber }
        inq := if s.inq.length < s.cfg.queueCap then s.inq ++ [{ f with isAcknowledgment := false }] else s.inq
        rxLen := if s.inq.length < s.cfg.queueCap then 0 else s.rxLen
        rxState := if s.inq.length < s.cfg.queueCap then s.rxState else .deliver
        out := { s.out with cause := some .acted } }

/-- Candidates that are not accepted. `RX_INVALID`: dropped without an acknowledgment, the label being the first
condition that fails (R248, R282). `RX_DUPLICATE`: only the sequence condition fails and the number is the one
accepted last; acknowledged again only under `DUP_REACK`, never delivered, never counted (R249). -/
def Obligations.RejectedCandidates : Prop :=
  ∀ (s : State) (u : List Byte) (f : Frame), s.heldUnit = some u → s.ackMatches u = false →
    decodeFrame u = some f →
    (verify f s.cfg.myId (s.framesReceived + 1) = false → verify f s.cfg.myId s.framesReceived = false →
      exec .rxInvalid s = .next (State.label { s with rxLen := 0 }
        (if f.destination ≠ s.cfg.myId then .destinationMismatch
        else if f.sequenceNumber ≠ s.framesReceived + 1 then .sequenceMismatch
        else if checksum [f.source, f.destination, f.sequenceNumber] ≠ f.headerChecksum then .headerChecksum
        else .payloadChecksum))) ∧
    (verify f s.cfg.myId s.framesReceived = true →
      exec .rxDuplicate s = .next
        { s with
          pendingAck :=
            if s.cfg.dupReack then some { destination := f.source, sequence := f.sequenceNumber }
            else s.pendingAck
          rxLen := 0
          out := { s.out with cause := some .duplicate } })

/-- `RX_DELIVER`: the held frame enters `inq` as soon as there is room, and RXP hunts again; without room
nothing changes (R247). -/
def Obligations.DeliverWaitsForRoom : Prop :=
  ∀ s : State, s.shutdown = false → s.rxState = .deliver →
    (s.cfg.queueCap ≤ s.inq.length → exec .rxDeliver s = .next s) ∧
    (∀ u f, s.inq.length < s.cfg.queueCap → s.heldUnit = some u → decodeFrame u = some f →
      exec .rxDeliver s = .next
        { s with
          inq := s.inq ++ [{ f with isAcknowledgment := false }]
          rxLen := 0
          rxState := .hunt
          rxLowCnt := 0 })

/-- A whole unit handed to RXP (log entry 16): it is stored from index 0 on and the unit ends, with `rx_esc` as it
was; a data-frame candidate that is valid, new and finds room in `inq` is accepted (R245, R246); the awaited
acknowledgment sets the flag (R244). Which of the two a unit of five bytes is, R241's tests decide, not the row
(log entry 10). Where RXP does not listen the unit is lost (log entry 12). -/
def Obligations.WholeUnitRows : Prop :=
  ∀ (s : State) (src dst seq hcs pcs : Byte) (payload : List Byte),
    exec (.ack src dst seq hcs pcs) s = exec (.data src dst seq hcs pcs []) s ∧
    (s.deaf = true → exec (.data src dst seq hcs pcs payload) s = .next s) ∧
    (s.deaf = false → s.rxBuf.wf = true →
      (payload.length ≤ s.cfg.maxPayload →
        ∃ t m, exec (.data src dst seq hcs pcs payload) s = .next t ∧
          m.readRun 0 (5 + payload.length) = src :: dst :: seq :: hcs :: pcs :: payload ∧
          exec (.data src dst seq hcs pcs payload) s =
            exec .unitend { s with rxBuf := m, rxLen := 5 + payload.length, rxOvf := false } ∧
          (s.ackMatches (src :: dst :: seq :: hcs :: pcs :: payload) = false →
            dst = s.cfg.myId → seq = s.framesReceived + 1 → hcs = checksum [src, dst, seq] →
            pcs = checksum payload → s.inq.length < s.cfg.queueCap →
            t = { s with
              rxBuf := m
              framesReceived := seq
              pendingAck := some { destination := src, sequence := seq }
              inq := s.inq ++ [⟨src, dst, seq, payload, hcs, pcs, false⟩]
              rxLen := 0
              rxOvf := false
              out := { s.out with cause := some .acted } })) ∧
      (s.ackMatches [src, dst, seq, hcs, pcs] = true →
        ∃ t, exec (.ack src dst seq hcs pcs) s = .next t ∧
          t = { s with
            rxBuf := t.rxBuf
            ackFlag := true
            rxLen := 0
            rxOvf := false
            out := { s.out with cause := some .acted } }))

/-! ### Line transcoder -/

/-- The level rows drive the level and nothing else (R101, R300), in any state of TXP (the model's choice, log
entry 27); the level this endpoint drives is classified as itself by its own receiver (R10, R186). -/
def Obligations.LevelRowsDrive : Prop :=
  ∀ s : State,
    exec .lvlNeutral s = .next { s with lineOut := .neutral } ∧
    exec .lvlHigh s = .next { s with lineOut := .high } ∧
    exec .lvlLow s = .next { s with lineOut := .low } ∧
    (s.cfg.legal = true →
      isLow s.cfg (voltage s.cfg .low) = true ∧ isHigh s.cfg (voltage s.cfg .low) = false ∧
      isLow s.cfg (voltage s.cfg .neutral) = false ∧ isHigh s.cfg (voltage s.cfg .neutral) = false ∧
      isLow s.cfg (voltage s.cfg .high) = false ∧ isHigh s.cfg (voltage s.cfg .high) = true)

/-- The output codes write their output and no register: the answers of `SEND` and `RECV` (R112), the discard
labels (R282), the stuffed pairs on the model's own output (R105). That such a row drives its output is the
model's choice (log entries 8 and 14). -/
def Obligations.OutputCodeRows : Prop :=
  ∀ s : State,
    exec (.ok .send) s = .next { s with out := { s.out with sendRsp := some .ok } } ∧
    exec (.ok .recv) s = .next { s with out := { s.out with recvRsp := some .ok } } ∧
    exec (.wouldBlock .send) s = .next { s with out := { s.out with sendRsp := some .wouldBlock } } ∧
    exec (.wouldBlock .recv) s = .next { s with out := { s.out with recvRsp := some .wouldBlock } } ∧
    exec (.cancelled .send) s = .next { s with out := { s.out with sendRsp := some .cancelled } } ∧
    exec (.cancelled .recv) s = .next { s with out := { s.out with recvRsp := some .cancelled } } ∧
    exec .tooLong s = .next { s with out := { s.out with sendRsp := some .tooLong } } ∧
    exec .dcNone s = .next { s with out := { s.out with cause := some .acted } } ∧
    exec .dcOverflow s = .next { s with out := { s.out with cause := some .overflow } } ∧
    exec .dcUndersized s = .next { s with out := { s.out with cause := some .undersized } } ∧
    exec .dcDestinationMismatch s =
      .next { s with out := { s.out with cause := some .destinationMismatch } } ∧
    exec .dcSequenceMismatch s = .next { s with out := { s.out with cause := some .sequenceMismatch } } ∧
    exec .dcHeaderChecksum s = .next { s with out := { s.out with cause := some .headerChecksum } } ∧
    exec .dcPayloadChecksum s = .next { s with out := { s.out with cause := some .payloadChecksum } } ∧
    exec .dcDuplicate s = .next { s with out := { s.out with cause := some .duplicate } } ∧
    exec .escSentinel s = .next { s with out := { s.out with value := .bytes [0x7D, 0x7E] } } ∧
    exec .escEscape s = .next { s with out := { s.out with value := .bytes [0x7D, 0x7D] } }

/-- The sequencer's tick: guard LOW, start HIGH, then the bits, bit 7 first, each phase for its count of
ticks; `TXSEQ` runs it on the wire byte at `tx_widx` (R103, R181, R182, R184). That one execution of `SLOT` is
one tick is log entry 15; that it drives the line in any state of TXP is log entry 27. -/
def Obligations.SequencerTick : Prop :=
  ∀ (s : State) (b : Byte),
    (s.txPhase = .guard → exec (.slot b) s = .next
      (if s.txCnt + 1 = s.cfg.guardTicks then { s with lineOut := .low, txPhase := .start, txCnt := 0 }
      else { s with lineOut := .low, txCnt := s.txCnt + 1 })) ∧
    (s.txPhase = .start → exec (.slot b) s = .next
      (if s.txCnt + 1 = s.cfg.pulseTicks then
        { s with lineOut := .high, txPhase := .bit, txCnt := 0, txBit := 0 }
      else { s with lineOut := .high, txCnt := s.txCnt + 1 })) ∧
    (s.txPhase = .bit → exec (.slot b) s = .next
      { s with
        lineOut := if b.getLsbD (7 - s.txBit) then .high else .low
        txCnt := if s.txCnt + 1 < s.cfg.pulseTicks then s.txCnt + 1 else 0
        txBit :=
          if s.txCnt + 1 < s.cfg.pulseTicks then s.txBit else if s.txBit < 7 then s.txBit + 1 else 0
        txPhase :=
          if s.txCnt + 1 < s.cfg.pulseTicks ∨ s.txBit < 7 then .bit else .guard
        txWidx :=
          if s.txCnt + 1 < s.cfg.pulseTicks ∨ s.txBit < 7 then s.txWidx else s.txWidx + 1 }) ∧
    (∀ f, s.shutdown = false → s.txState = .sending → s.cur = some f → (wire f)[s.txWidx]? = some b →
      exec .txseq s = exec (.slot b) s ∧ ∃ t, exec .txseq s = .next t)

/-- A transmission's waveform (R102, R103, R181, R182; R193 infers the durations): from the first guard on, `n
* BYTE_TICKS` steps drive exactly the slots of the `n` wire bytes with no gap, and the step after them drives
NEUTRAL. -/
def Obligations.TransmissionWaveform : Prop :=
  ∀ (s : State) (f : Frame), s.cfg.legal = true → AtFirstGuard s f →
    txWave ((wire f).length * s.cfg.byteTicks) s = unitWave s.cfg f ∧
    txWave ((wire f).length * s.cfg.byteTicks + 1) s = unitWave s.cfg f ++ [.neutral] ∧
    (unitWave s.cfg f).length = (wire f).length * s.cfg.byteTicks ∧
    ∃ t, txRun ((wire f).length * s.cfg.byteTicks) s = .next t ∧
      t = { s with txWidx := (wire f).length, lineOut := t.lineOut }

/-- The sampler. `RXHUNT` (R187): a low sample counts up to the dwell, a high one after a full dwell starts a
byte, anything else clears the count. `RXDATA` (R189 to R191): between sample points only the count moves; at
bit `k`'s sample point, tick `(k + 1) * PULSE_TICKS + SAMPLE_OFFSET`, the bit is shifted in at the right; the
eighth hands the byte to the framer with the sampler in `Hunt`. -/
def Obligations.SamplerRules : Prop :=
  ∀ s : State, s.shutdown = false →
    (s.rxState = .hunt →
      (s.lineIn < s.cfg.thLow →
        exec .rxhunt s = .next { s with rxLowCnt := min (s.rxLowCnt + 1) s.cfg.dwellTicks }) ∧
      (s.cfg.thLow ≤ s.lineIn → s.cfg.thHigh < s.lineIn → s.cfg.dwellTicks ≤ s.rxLowCnt →
        exec .rxhunt s =
          .next { s with rxState := .data, rxCnt := 0, rxBit := 0, rxShift := 0, rxLowCnt := 0 }) ∧
      (s.cfg.thLow ≤ s.lineIn → (s.lineIn ≤ s.cfg.thHigh ∨ s.rxLowCnt < s.cfg.dwellTicks) →
        exec .rxhunt s = .next { s with rxLowCnt := 0 })) ∧
    (s.rxState = .data →
      (s.rxCnt + 1 ≠ (s.rxBit + 1) * s.cfg.pulseTicks + s.cfg.sampleOffset →
        exec .rxdata s = .next { s with rxCnt := s.rxCnt + 1 }) ∧
      (s.rxCnt + 1 = (s.rxBit + 1) * s.cfg.pulseTicks + s.cfg.sampleOffset →
        ∀ sh : Byte, sh = ((s.rxShift <<< 1) ||| if s.cfg.thHigh < s.lineIn then 1 else 0) →
          (s.rxBit ≠ 7 → exec .rxdata s =
            .next { s with rxCnt := s.rxCnt + 1, rxBit := s.rxBit + 1, rxShift := sh }) ∧
          (s.rxBit = 7 → exec .rxdata s = exec (.unstuff sh)
            { s with rxCnt := s.rxCnt + 1, rxBit := 8, rxShift := sh, rxState := .hunt, rxLowCnt := 0 } ∧
            (s.rxLen ≤ s.cfg.rxBufBytes → ∃ t, exec .rxdata s = .next t))))

/-- The receiver reads the slot of a byte as that byte (R187 to R191): hunting at the slot's first tick, it
hands exactly `b` to the framer once, at bit 0's sample point, and sees the rest of the last interval as it then
stands. -/
def Obligations.ReceiverReadsSlot : Prop :=
  ∀ (s : State) (b : Byte), s.cfg.legal = true → s.shutdown = false → s.rxState = .hunt →
    rxRun ((slotWave s.cfg b).map (voltage s.cfg)) s =
      andThen
        (unstuffByte b
          { s with
            lineIn := voltage s.cfg (levelOfBit (b.getLsbD 0))
            rxCnt := 8 * s.cfg.pulseTicks + s.cfg.sampleOffset
            rxBit := 8
            rxShift := b
            rxLowCnt := 0 })
        (rxRun (List.replicate (s.cfg.pulseTicks - s.cfg.sampleOffset - 1)
          (voltage s.cfg (levelOfBit (b.getLsbD 0)))))

/-- From the waveform to the queue: an endpoint that hunts with an empty framer, and to whom the line shows the
waveform of a valid, new data frame addressed to it, accepts and delivers exactly that frame and posts its
acknowledgment (R102, R165, R187 to R191, R245, R246). -/
def Obligations.TransmittedFrameIsDelivered : Prop :=
  ∀ (s : State) (f : Frame), EndpointInv s → s.shutdown = false → s.rxState = .hunt → s.rxLen = 0 →
    s.rxEsc = false → s.inq.length < s.cfg.queueCap → f.isAcknowledgment = false →
    f.payload.length ≤ s.cfg.maxPayload → f.destination = s.cfg.myId →
    f.sequenceNumber = s.framesReceived + 1 → headerSum f = f.headerChecksum →
    checksum f.payload = f.payloadChecksum → s.ackMatches (encodeFrame f) = false →
    ∃ t, rxRun ((unitWave s.cfg f).map (voltage s.cfg)) s = .next t ∧
      t.inq = s.inq ++ [f] ∧ t.framesReceived = f.sequenceNumber ∧
      t.pendingAck = some { destination := f.source, sequence := f.sequenceNumber } ∧
      t.rxState = .hunt ∧ t.rxLen = 0 ∧ t.rxEsc = false ∧ t.rxOvf = false ∧
      t.outq = s.outq ∧ t.cur = s.cur ∧ t.ackFlag = s.ackFlag

/-- The ideal line, which D36 fixes for the spec's vectors, shows the level on which its drivers that are not
at NEUTRAL agree, and NEUTRAL where there is none; so an endpoint hears itself on an otherwise quiet line
(R301, R302, R336). -/
def Obligations.IdealLineResolves : Prop :=
  ∀ (c : Config) (ls : List Level) (l : Level),
    ((∀ x ∈ ls, x = .neutral) → resolveLine c ls = c.vNeutral) ∧
    (l ∈ ls → (∀ x ∈ ls, x = .neutral ∨ x = l) → resolveLine c ls = voltage c l) ∧
    ∀ (s : State) (quiet : List State), (∀ q ∈ quiet, q.lineOut = .neutral) →
      idealLineIn c (s :: quiet) = voltage c s.lineOut

/-! ### Transmit path -/

/-- `TX_IDLE_ACK`: the pending acknowledgment is taken first and its transmission begins; `outq`, `framesSent`
and `retry` keep their values (R212). `TX_IDLE_DATA`: else the oldest descriptor is numbered, finalised and its
transmission begins (R213). -/
def Obligations.IdleTakesWork : Prop :=
  ∀ s : State, s.shutdown = false → s.txState = .idle →
    (∀ p, s.pendingAck = some p → exec .txIdleAck s = .next
      { s with
        pendingAck := none
        cur := some
          { source := s.cfg.myId
            destination := p.destination
            sequenceNumber := p.sequence
            payload := []
            headerChecksum := checksum [s.cfg.myId, p.destination, p.sequence]
            payloadChecksum := 0xFF
            isAcknowledgment := true }
        curIsAck := true
        txWidx := 0
        txPhase := .guard
        txCnt := 0
        txBit := 0
        txState := .sending }) ∧
    (∀ d rest, s.pendingAck = none → s.outq = d :: rest → exec .txIdleData s = .next
      { s with
        outq := rest
        framesSent := s.framesSent + 1
        cur := some
          { source := s.cfg.myId
            destination := d.destination
            sequenceNumber := s.framesSent + 1
            payload := d.payload
            headerChecksum := checksum [s.cfg.myId, d.destination, s.framesSent + 1]
            payloadChecksum := checksum d.payload
            isAcknowledgment := false }
        curIsAck := false
        retry := 0
        txWidx := 0
        txPhase := .guard
        txCnt := 0
        txBit := 0
        txState := .sending })

/-- `TX_IDLE_WAIT`: with nothing to do nothing changes; with something to do, `Idle` is left in that very step
(R214). -/
def Obligations.IdleWaitsForWork : Prop :=
  ∀ s : State, s.shutdown = false → s.txState = .idle →
    (s.pendingAck = none → s.outq = [] → exec .txIdleWait s = .next s) ∧
    (s.pendingAck ≠ none ∨ s.outq ≠ [] → ∃ t, txpStep s = .next t ∧ t.txState = .sending)

/-- `TX_SENT`: the line goes NEUTRAL; an acknowledgment is done, a data frame is awaited with the timer at 0;
`ack_flag` is not cleared (R183, R215). -/
def Obligations.TransmissionEnds : Prop :=
  ∀ (s : State) (f : Frame), s.shutdown = false → s.txState = .sending → s.cur = some f →
    s.txWidx = (wire f).length →
    (s.curIsAck = true → exec .txSent s =
      .next { s with lineOut := .neutral, cur := none, curIsAck := false, txState := .idle }) ∧
    (s.curIsAck = false → exec .txSent s =
      .next { s with lineOut := .neutral, ackTimer := 0, txState := .awaitingAck })

/-- The four rows of `AwaitingAck`: the signal is consumed before the timer is looked at; below the limit the
timer counts; at the limit the timeout is counted and the same frame is sent again, or TXP fails once the new
count exceeds `MAX_ATTEMPTS` (R216 to R219). -/
def Obligations.AwaitingRows : Prop :=
  ∀ s : State, s.shutdown = false → s.txState = .awaitingAck → s.retry + 1 < 2 ^ s.cfg.retryBits →
    (s.ackFlag = true → exec .txAcked s =
      .next { s with ackFlag := false, retry := 0, cur := none, txState := .idle }) ∧
    (s.ackFlag = false → s.ackTimer + 1 < s.cfg.ackTimeoutTicks →
      exec .txWait s = .next { s with ackTimer := s.ackTimer + 1 }) ∧
    (s.ackFlag = false → s.cfg.ackTimeoutTicks ≤ s.ackTimer + 1 → s.retry + 1 ≤ s.cfg.maxAttempts →
      exec .txRetransmit s = .next
        { s with
          ackTimer := s.ackTimer + 1
          retry := s.retry + 1
          txWidx := 0
          txPhase := .guard
          txCnt := 0
          txBit := 0
          txState := .sending }) ∧
    (s.ackFlag = false → s.cfg.ackTimeoutTicks ≤ s.ackTimer + 1 → s.cfg.maxAttempts < s.retry + 1 →
      exec .txLimit s =
        .next { s with ackTimer := s.ackTimer + 1, retry := s.retry + 1, txState := .failed })

/-- Without a signal the timeout comes exactly `ACK_TIMEOUT_TICKS` steps after the wait began (R217, R289). -/
def Obligations.TimeoutIsExact : Prop :=
  ∀ s : State, s.cfg.legal = true → s.shutdown = false → s.txState = .awaitingAck → s.ackFlag = false →
    s.ackTimer = 0 → s.retry ≤ s.cfg.maxAttempts →
    (∀ k, k < s.cfg.ackTimeoutTicks → txRun k s = .next { s with ackTimer := k }) ∧
    ∃ t, txRun s.cfg.ackTimeoutTicks s = .next t ∧ t.retry = s.retry + 1 ∧ t.cur = s.cur ∧
      t.ackTimer = s.cfg.ackTimeoutTicks ∧
      t.txState = if s.retry + 1 ≤ s.cfg.maxAttempts then .sending else .failed

/-- With no acknowledgment a data frame is sent `MAX_ATTEMPTS + 1` times, unchanged, transmission `j` entered
after `j * (n * BYTE_TICKS + 1 + ACK_TIMEOUT_TICKS)` steps; then TXP fails, reports that frame in the next
step, and takes the next descriptor in the step after it: R224 (3) and (4), which the spec infers from R212 to
R220. -/
def Obligations.AttemptsExhausted : Prop :=
  ∀ (s : State) (f : Frame) (P : Nat), s.cfg.legal = true → AtFirstGuard s f → s.curIsAck = false →
    s.ackFlag = false → s.retry = 0 →
    P = (wire f).length * s.cfg.byteTicks + 1 + s.cfg.ackTimeoutTicks →
    (∀ j, j ≤ s.cfg.maxAttempts →
      ∃ t, txRun (j * P) s = .next t ∧ AtFirstGuard t f ∧ t.retry = j ∧
        txWave ((wire f).length * s.cfg.byteTicks) t = unitWave s.cfg f) ∧
    ∃ t, txRun ((s.cfg.maxAttempts + 1) * P) s = .next t ∧ t.txState = .failed ∧
      t.retry = s.cfg.maxAttempts + 1 ∧ t.cur = some f ∧ t.framesSent = s.framesSent ∧
      ∃ u, txpStep t = .next u ∧ u.out.evFail = true ∧ u.out.evFailDst = f.destination ∧
        u.out.evFailSeq = f.sequenceNumber ∧ u.failSticky = true ∧ u.cur = none ∧ u.retry = 0 ∧
        u.txState = .idle ∧
        ∀ d rest, s.pendingAck = none → s.outq = d :: rest →
          ∃ v, txpStep u = .next v ∧ v.cur = some (finalize d s.cfg.myId (s.framesSent + 1)) ∧
            v.outq = rest ∧ v.txState = .sending

/-- `TX_FAILED` reports the frame by destination and number, marks the failure for good and abandons the frame;
`DELIVERYFAILED` is the report alone (R220, R265). -/
def Obligations.FailureReported : Prop :=
  ∀ (s : State) (f : Frame), s.shutdown = false → s.txState = .failed → s.cur = some f →
    exec .txFailed s = .next
      { s with
        out := { s.out with evFail := true, evFailDst := f.destination, evFailSeq := f.sequenceNumber }
        failSticky := true
        cur := none
        retry := 0
        txState := .idle } ∧
    exec .deliveryfailed s = .next
      { s with
        out := { s.out with evFail := true, evFailDst := f.destination, evFailSeq := f.sequenceNumber } }

/-- Cancellation in any state of TXP: the line goes NEUTRAL and the path halts; nothing else changes, so no
failure is reported even from `Failed` (R211). RXP halts and does nothing else (R250). A halted path does
nothing (R221, R250). -/
def Obligations.HaltRows : Prop :=
  ∀ s : State,
    (∀ st, s.shutdown = true → s.txState = st → st ≠ .halted →
      exec (.txHalt st) s = .next { s with lineOut := .neutral, txState := .halted }) ∧
    (∀ st, s.shutdown = true → s.rxState = st → st ≠ .halted →
      exec (.rxHalt st) s = .next { s with rxState := .halted }) ∧
    (s.rxState = .halted → exec (.rxHalted s.shutdown) s = .next s) ∧
    (s.txState = .halted → exec (.txHalted s.shutdown) s = .next s)

/-! ### Host interface -/

/-- `SEND`: the answer in the order `Cancelled`, `TooLong`, `WouldBlock`, `OK`; only `OK` changes a register,
and it adds the descriptor at the end of `outq` (R261, R287). -/
def Obligations.SendAnswers : Prop :=
  ∀ (s : State) (dst : Byte) (payload : List Byte),
    (s.shutdown = true →
      exec (.send dst payload) s = .next { s with out := { s.out with sendRsp := some .cancelled } }) ∧
    (s.shutdown = false → s.cfg.maxPayload < payload.length →
      exec (.send dst payload) s = .next { s with out := { s.out with sendRsp := some .tooLong } }) ∧
    (s.shutdown = false → payload.length ≤ s.cfg.maxPayload → s.cfg.queueCap ≤ s.outq.length →
      exec (.send dst payload) s = .next { s with out := { s.out with sendRsp := some .wouldBlock } }) ∧
    (s.shutdown = false → payload.length ≤ s.cfg.maxPayload → s.outq.length < s.cfg.queueCap →
      exec (.send dst payload) s = .next
        { s with
          outq := s.outq ++ [{ destination := dst, payload := payload }]
          out := { s.out with sendRsp := some .ok } })

/-- `RECV`: `Cancelled`, `WouldBlock`, or the oldest entry of `inq`, which leaves it; under the invariant the
frame handed out is addressed to this endpoint and both its checksums are right (R114, R262). -/
def Obligations.RecvAnswers : Prop :=
  ∀ s : State,
    (s.shutdown = true → exec .recv s = .next { s with out := { s.out with recvRsp := some .cancelled } }) ∧
    (s.shutdown = false → s.inq = [] →
      exec .recv s = .next { s with out := { s.out with recvRsp := some .wouldBlock } }) ∧
    ∀ f rest, s.shutdown = false → s.inq = f :: rest →
      exec .recv s = .next
        { s with
          inq := rest
          out := { s.out with
            recvRsp := some .ok
            recvd :=
              { src := f.source
                dst := f.destination
                seq := f.sequenceNumber
                hcs := f.headerChecksum
                pcs := f.payloadChecksum
                len := f.payload.length
                payload := f.payload } } } ∧
      (EndpointInv s → f.destination = s.cfg.myId ∧ checksum [f.source, f.destination, f.sequenceNumber] =
        f.headerChecksum ∧ checksum f.payload = f.payloadChecksum)

/-- `SHUTDOWN` sets its bit, for good, and has no answer; in the same tick both paths halt, TXP with the line at
NEUTRAL (R263, R286). -/
def Obligations.ShutdownHaltsBothPaths : Prop :=
  ∀ s : State,
    exec .shutdown s = .next { s with shutdown := true } ∧
    ∃ t u, rxpStep { s with shutdown := true } = .next t ∧ txpStep t = .next u ∧
      u.rxState = .halted ∧ u.txState = .halted ∧ u.out = s.out ∧
      (s.txState ≠ .halted → u.lineOut = .neutral) ∧
      u = { s with shutdown := true, rxState := .halted, txState := .halted, lineOut := u.lineOut }

/-- `RESET` and power-up give every register the value of R47's table, whose values are the spec's own choice
(D4, D25); the configuration is unchanged. What `rx_buf` holds then has no meaning (log entries 2 and 18). -/
def Obligations.ResetGivesTableValues : Prop :=
  ∀ (s : State) (c : Config),
    ∃ t, exec .reset s = .next t ∧ t.cfg = s.cfg ∧ (State.resetWith c).cfg = c ∧
      ∀ r, r = t ∨ r = State.resetWith c →
        r.cur = none ∧ r.curIsAck = false ∧ r.txState = .idle ∧ r.txWidx = 0 ∧ r.txCnt = 0 ∧
        r.txBit = 0 ∧ r.txPhase = .guard ∧ r.rxState = .hunt ∧ r.rxLowCnt = 0 ∧ r.rxCnt = 0 ∧
        r.rxBit = 0 ∧ r.rxShift = 0 ∧ r.rxLen = 0 ∧ r.rxEsc = false ∧ r.rxOvf = false ∧
        r.framesSent = 0 ∧ r.framesReceived = 0 ∧ r.retry = 0 ∧ r.ackTimer = 0 ∧ r.ackFlag = false ∧
        r.pendingAck = none ∧ r.shutdown = false ∧ r.failSticky = false ∧ r.outq = [] ∧ r.inq = [] ∧
        r.lineOut = .neutral

/-- Several requests in one tick: `RESET` alone is handled and ends the tick before RXP and TXP step;
otherwise `SHUTDOWN`, `SEND`, `RECV`, one step each, and with `SHUTDOWN` the other two answer `Cancelled` and
move nothing (R264, R269). One step per request is the model's choice (log entry 23). -/
def Obligations.RequestOrder : Prop :=
  ∀ s : State, s.cfg.legal = true → s.opPort = none → s.turn = .host →
    (s.hReq.getLsbD 3 = true →
      ∃ t, step s = .next t ∧ t.turn = .line ∧ t.hReq = 0 ∧ t.txState = .idle ∧ t.rxState = .hunt ∧
        t.outq = [] ∧ t.inq = []) ∧
    (s.hReq.getLsbD 3 = false → s.hReq.getLsbD 2 = true →
      step s = exec .shutdown { s with hReq := s.hReq &&& 0b1011#4 }) ∧
    (s.hReq.getLsbD 3 = false → s.hReq.getLsbD 2 = false → s.hReq.getLsbD 0 = true →
      step s = exec (.send s.hDst s.hPayload) { s with hReq := s.hReq &&& 0b1110#4 }) ∧
    (s.hReq = 2 → step s = exec .recv { s with hReq := 0 }) ∧
    (s.hReq = 0b0111#4 →
      ∃ t, Host.Core.run core 4 s = .next t ∧ t.turn = .rxp ∧ t.shutdown = true ∧
        t.out.sendRsp = some .cancelled ∧ t.out.recvRsp = some .cancelled ∧ t.outq = s.outq ∧ t.inq = s.inq)

/-- The status outputs show the registers at the start of the tick and hold through it; every other output is at
rest at the start of the tick: no answer, no event, no label, the received frame and the event operands at zero
(R260, R267, IU12). That answers, label and function value are absent at rest is log entries 8 and 17. -/
def Obligations.StatusLatchedAtTickStart : Prop :=
  ∀ s t : State, s.opPort = none → step s = .next t →
    (s.turn = .line →
      t.status =
        { txState := s.txState.code
          rxState := s.rxState.code
          framesSent := s.framesSent
          framesReceived := s.framesReceived
          retry := s.retry
          failSticky := s.failSticky
          shutdown := s.shutdown
          outqCount := s.outq.length
          inqCount := s.inq.length } ∧
      t.out =
        { sendRsp := none
          recvRsp := none
          recvd := { src := 0, dst := 0, seq := 0, hcs := 0, pcs := 0, len := 0, payload := [] }
          evFail := false
          evFailDst := 0
          evFailSeq := 0
          cause := none
          value := .none } ∧
      t.turn = .host) ∧
    (s.turn ≠ .line → t.status = s.status)
end

