-- ==== Sys2Proof/Laws/State.lean ====
section
/-! SUPPORT. One lemma per field per named update of `State` (the events, the control position and reset of
Machine/Ops.lean): what each leaves in every field. All hold by `rfl`. -/

namespace Sys2Proof.Machine

section Updates
variable (s : State)

@[simp] theorem State.setLevel_cfg (l : Level) : (s.setLevel l).cfg = s.cfg := rfl
@[simp] theorem State.setLevel_cur (l : Level) : (s.setLevel l).cur = s.cur := rfl
@[simp] theorem State.setLevel_rxBuf (l : Level) : (s.setLevel l).rxBuf = s.rxBuf := rfl
@[simp] theorem State.setLevel_rxLen (l : Level) : (s.setLevel l).rxLen = s.rxLen := rfl
@[simp] theorem State.setLevel_rxShift (l : Level) : (s.setLevel l).rxShift = s.rxShift := rfl
@[simp] theorem State.setLevel_txState (l : Level) : (s.setLevel l).txState = s.txState := rfl
@[simp] theorem State.setLevel_txWidx (l : Level) : (s.setLevel l).txWidx = s.txWidx := rfl
@[simp] theorem State.setLevel_txPhase (l : Level) : (s.setLevel l).txPhase = s.txPhase := rfl
@[simp] theorem State.setLevel_txCnt (l : Level) : (s.setLevel l).txCnt = s.txCnt := rfl
@[simp] theorem State.setLevel_txBit (l : Level) : (s.setLevel l).txBit = s.txBit := rfl
@[simp] theorem State.setLevel_rxState (l : Level) : (s.setLevel l).rxState = s.rxState := rfl
@[simp] theorem State.setLevel_rxLowCnt (l : Level) : (s.setLevel l).rxLowCnt = s.rxLowCnt := rfl
@[simp] theorem State.setLevel_rxCnt (l : Level) : (s.setLevel l).rxCnt = s.rxCnt := rfl
@[simp] theorem State.setLevel_rxBit (l : Level) : (s.setLevel l).rxBit = s.rxBit := rfl
@[simp] theorem State.setLevel_ackFlag (l : Level) : (s.setLevel l).ackFlag = s.ackFlag := rfl
@[simp] theorem State.setLevel_pendingAck (l : Level) : (s.setLevel l).pendingAck = s.pendingAck := rfl
@[simp] theorem State.setLevel_curIsAck (l : Level) : (s.setLevel l).curIsAck = s.curIsAck := rfl
@[simp] theorem State.setLevel_rxEsc (l : Level) : (s.setLevel l).rxEsc = s.rxEsc := rfl
@[simp] theorem State.setLevel_rxOvf (l : Level) : (s.setLevel l).rxOvf = s.rxOvf := rfl
@[simp] theorem State.setLevel_shutdown (l : Level) : (s.setLevel l).shutdown = s.shutdown := rfl
@[simp] theorem State.setLevel_failSticky (l : Level) : (s.setLevel l).failSticky = s.failSticky := rfl
@[simp] theorem State.setLevel_framesSent (l : Level) : (s.setLevel l).framesSent = s.framesSent := rfl
@[simp] theorem State.setLevel_framesReceived (l : Level) : (s.setLevel l).framesReceived = s.framesReceived := rfl
@[simp] theorem State.setLevel_retry (l : Level) : (s.setLevel l).retry = s.retry := rfl
@[simp] theorem State.setLevel_ackTimer (l : Level) : (s.setLevel l).ackTimer = s.ackTimer := rfl
@[simp] theorem State.setLevel_outq (l : Level) : (s.setLevel l).outq = s.outq := rfl
@[simp] theorem State.setLevel_inq (l : Level) : (s.setLevel l).inq = s.inq := rfl
@[simp] theorem State.setLevel_lineOut (l : Level) : (s.setLevel l).lineOut = l := rfl
@[simp] theorem State.setLevel_lineIn (l : Level) : (s.setLevel l).lineIn = s.lineIn := rfl
@[simp] theorem State.setLevel_hReq (l : Level) : (s.setLevel l).hReq = s.hReq := rfl
@[simp] theorem State.setLevel_hDst (l : Level) : (s.setLevel l).hDst = s.hDst := rfl
@[simp] theorem State.setLevel_hPayload (l : Level) : (s.setLevel l).hPayload = s.hPayload := rfl
@[simp] theorem State.setLevel_out (l : Level) : (s.setLevel l).out = s.out := rfl
@[simp] theorem State.setLevel_status (l : Level) : (s.setLevel l).status = s.status := rfl
@[simp] theorem State.setLevel_turn (l : Level) : (s.setLevel l).turn = s.turn := rfl
@[simp] theorem State.setLevel_tickNo (l : Level) : (s.setLevel l).tickNo = s.tickNo := rfl
@[simp] theorem State.setLevel_lineFeed (l : Level) : (s.setLevel l).lineFeed = s.lineFeed := rfl
@[simp] theorem State.setLevel_hostFeed (l : Level) : (s.setLevel l).hostFeed = s.hostFeed := rfl
@[simp] theorem State.setLevel_opPort (l : Level) : (s.setLevel l).opPort = s.opPort := rfl

@[simp] theorem State.label_cfg (c : DiscardCause) : (s.label c).cfg = s.cfg := rfl
@[simp] theorem State.label_cur (c : DiscardCause) : (s.label c).cur = s.cur := rfl
@[simp] theorem State.label_rxBuf (c : DiscardCause) : (s.label c).rxBuf = s.rxBuf := rfl
@[simp] theorem State.label_rxLen (c : DiscardCause) : (s.label c).rxLen = s.rxLen := rfl
@[simp] theorem State.label_rxShift (c : DiscardCause) : (s.label c).rxShift = s.rxShift := rfl
@[simp] theorem State.label_txState (c : DiscardCause) : (s.label c).txState = s.txState := rfl
@[simp] theorem State.label_txWidx (c : DiscardCause) : (s.label c).txWidx = s.txWidx := rfl
@[simp] theorem State.label_txPhase (c : DiscardCause) : (s.label c).txPhase = s.txPhase := rfl
@[simp] theorem State.label_txCnt (c : DiscardCause) : (s.label c).txCnt = s.txCnt := rfl
@[simp] theorem State.label_txBit (c : DiscardCause) : (s.label c).txBit = s.txBit := rfl
@[simp] theorem State.label_rxState (c : DiscardCause) : (s.label c).rxState = s.rxState := rfl
@[simp] theorem State.label_rxLowCnt (c : DiscardCause) : (s.label c).rxLowCnt = s.rxLowCnt := rfl
@[simp] theorem State.label_rxCnt (c : DiscardCause) : (s.label c).rxCnt = s.rxCnt := rfl
@[simp] theorem State.label_rxBit (c : DiscardCause) : (s.label c).rxBit = s.rxBit := rfl
@[simp] theorem State.label_ackFlag (c : DiscardCause) : (s.label c).ackFlag = s.ackFlag := rfl
@[simp] theorem State.label_pendingAck (c : DiscardCause) : (s.label c).pendingAck = s.pendingAck := rfl
@[simp] theorem State.label_curIsAck (c : DiscardCause) : (s.label c).curIsAck = s.curIsAck := rfl
@[simp] theorem State.label_rxEsc (c : DiscardCause) : (s.label c).rxEsc = s.rxEsc := rfl
@[simp] theorem State.label_rxOvf (c : DiscardCause) : (s.label c).rxOvf = s.rxOvf := rfl
@[simp] theorem State.label_shutdown (c : DiscardCause) : (s.label c).shutdown = s.shutdown := rfl
@[simp] theorem State.label_failSticky (c : DiscardCause) : (s.label c).failSticky = s.failSticky := rfl
@[simp] theorem State.label_framesSent (c : DiscardCause) : (s.label c).framesSent = s.framesSent := rfl
@[simp] theorem State.label_framesReceived (c : DiscardCause) : (s.label c).framesReceived = s.framesReceived := rfl
@[simp] theorem State.label_retry (c : DiscardCause) : (s.label c).retry = s.retry := rfl
@[simp] theorem State.label_ackTimer (c : DiscardCause) : (s.label c).ackTimer = s.ackTimer := rfl
@[simp] theorem State.label_outq (c : DiscardCause) : (s.label c).outq = s.outq := rfl
@[simp] theorem State.label_inq (c : DiscardCause) : (s.label c).inq = s.inq := rfl
@[simp] theorem State.label_lineOut (c : DiscardCause) : (s.label c).lineOut = s.lineOut := rfl
@[simp] theorem State.label_lineIn (c : DiscardCause) : (s.label c).lineIn = s.lineIn := rfl
@[simp] theorem State.label_hReq (c : DiscardCause) : (s.label c).hReq = s.hReq := rfl
@[simp] theorem State.label_hDst (c : DiscardCause) : (s.label c).hDst = s.hDst := rfl
@[simp] theorem State.label_hPayload (c : DiscardCause) : (s.label c).hPayload = s.hPayload := rfl
@[simp] theorem State.label_out_sendRsp (c : DiscardCause) : (s.label c).out.sendRsp = s.out.sendRsp := rfl
@[simp] theorem State.label_out_recvRsp (c : DiscardCause) : (s.label c).out.recvRsp = s.out.recvRsp := rfl
@[simp] theorem State.label_out_recvd (c : DiscardCause) : (s.label c).out.recvd = s.out.recvd := rfl
@[simp] theorem State.label_out_evFail (c : DiscardCause) : (s.label c).out.evFail = s.out.evFail := rfl
@[simp] theorem State.label_out_evFailDst (c : DiscardCause) : (s.label c).out.evFailDst = s.out.evFailDst := rfl
@[simp] theorem State.label_out_evFailSeq (c : DiscardCause) : (s.label c).out.evFailSeq = s.out.evFailSeq := rfl
@[simp] theorem State.label_out_cause (c : DiscardCause) : (s.label c).out.cause = some c := rfl
@[simp] theorem State.label_out_value (c : DiscardCause) : (s.label c).out.value = s.out.value := rfl
@[simp] theorem State.label_status (c : DiscardCause) : (s.label c).status = s.status := rfl
@[simp] theorem State.label_turn (c : DiscardCause) : (s.label c).turn = s.turn := rfl
@[simp] theorem State.label_tickNo (c : DiscardCause) : (s.label c).tickNo = s.tickNo := rfl
@[simp] theorem State.label_lineFeed (c : DiscardCause) : (s.label c).lineFeed = s.lineFeed := rfl
@[simp] theorem State.label_hostFeed (c : DiscardCause) : (s.label c).hostFeed = s.hostFeed := rfl
@[simp] theorem State.label_opPort (c : DiscardCause) : (s.label c).opPort = s.opPort := rfl

@[simp] theorem State.answerSend_cfg (r : Rsp) : (s.answerSend r).cfg = s.cfg := rfl
@[simp] theorem State.answerSend_cur (r : Rsp) : (s.answerSend r).cur = s.cur := rfl
@[simp] theorem State.answerSend_rxBuf (r : Rsp) : (s.answerSend r).rxBuf = s.rxBuf := rfl
@[simp] theorem State.answerSend_rxLen (r : Rsp) : (s.answerSend r).rxLen = s.rxLen := rfl
@[simp] theorem State.answerSend_rxShift (r : Rsp) : (s.answerSend r).rxShift = s.rxShift := rfl
@[simp] theorem State.answerSend_txState (r : Rsp) : (s.answerSend r).txState = s.txState := rfl
@[simp] theorem State.answerSend_txWidx (r : Rsp) : (s.answerSend r).txWidx = s.txWidx := rfl
@[simp] theorem State.answerSend_txPhase (r : Rsp) : (s.answerSend r).txPhase = s.txPhase := rfl
@[simp] theorem State.answerSend_txCnt (r : Rsp) : (s.answerSend r).txCnt = s.txCnt := rfl
@[simp] theorem State.answerSend_txBit (r : Rsp) : (s.answerSend r).txBit = s.txBit := rfl
@[simp] theorem State.answerSend_rxState (r : Rsp) : (s.answerSend r).rxState = s.rxState := rfl
@[simp] theorem State.answerSend_rxLowCnt (r : Rsp) : (s.answerSend r).rxLowCnt = s.rxLowCnt := rfl
@[simp] theorem State.answerSend_rxCnt (r : Rsp) : (s.answerSend r).rxCnt = s.rxCnt := rfl
@[simp] theorem State.answerSend_rxBit (r : Rsp) : (s.answerSend r).rxBit = s.rxBit := rfl
@[simp] theorem State.answerSend_ackFlag (r : Rsp) : (s.answerSend r).ackFlag = s.ackFlag := rfl
@[simp] theorem State.answerSend_pendingAck (r : Rsp) : (s.answerSend r).pendingAck = s.pendingAck := rfl
@[simp] theorem State.answerSend_curIsAck (r : Rsp) : (s.answerSend r).curIsAck = s.curIsAck := rfl
@[simp] theorem State.answerSend_rxEsc (r : Rsp) : (s.answerSend r).rxEsc = s.rxEsc := rfl
@[simp] theorem State.answerSend_rxOvf (r : Rsp) : (s.answerSend r).rxOvf = s.rxOvf := rfl
@[simp] theorem State.answerSend_shutdown (r : Rsp) : (s.answerSend r).shutdown = s.shutdown := rfl
@[simp] theorem State.answerSend_failSticky (r : Rsp) : (s.answerSend r).failSticky = s.failSticky := rfl
@[simp] theorem State.answerSend_framesSent (r : Rsp) : (s.answerSend r).framesSent = s.framesSent := rfl
@[simp] theorem State.answerSend_framesReceived (r : Rsp) : (s.answerSend r).framesReceived = s.framesReceived := rfl
@[simp] theorem State.answerSend_retry (r : Rsp) : (s.answerSend r).retry = s.retry := rfl
@[simp] theorem State.answerSend_ackTimer (r : Rsp) : (s.answerSend r).ackTimer = s.ackTimer := rfl
@[simp] theorem State.answerSend_outq (r : Rsp) : (s.answerSend r).outq = s.outq := rfl
@[simp] theorem State.answerSend_inq (r : Rsp) : (s.answerSend r).inq = s.inq := rfl
@[simp] theorem State.answerSend_lineOut (r : Rsp) : (s.answerSend r).lineOut = s.lineOut := rfl
@[simp] theorem State.answerSend_lineIn (r : Rsp) : (s.answerSend r).lineIn = s.lineIn := rfl
@[simp] theorem State.answerSend_hReq (r : Rsp) : (s.answerSend r).hReq = s.hReq := rfl
@[simp] theorem State.answerSend_hDst (r : Rsp) : (s.answerSend r).hDst = s.hDst := rfl
@[simp] theorem State.answerSend_hPayload (r : Rsp) : (s.answerSend r).hPayload = s.hPayload := rfl
@[simp] theorem State.answerSend_out_sendRsp (r : Rsp) : (s.answerSend r).out.sendRsp = some r := rfl
@[simp] theorem State.answerSend_out_recvRsp (r : Rsp) : (s.answerSend r).out.recvRsp = s.out.recvRsp := rfl
@[simp] theorem State.answerSend_out_recvd (r : Rsp) : (s.answerSend r).out.recvd = s.out.recvd := rfl
@[simp] theorem State.answerSend_out_evFail (r : Rsp) : (s.answerSend r).out.evFail = s.out.evFail := rfl
@[simp] theorem State.answerSend_out_evFailDst (r : Rsp) : (s.answerSend r).out.evFailDst = s.out.evFailDst := rfl
@[simp] theorem State.answerSend_out_evFailSeq (r : Rsp) : (s.answerSend r).out.evFailSeq = s.out.evFailSeq := rfl
@[simp] theorem State.answerSend_out_cause (r : Rsp) : (s.answerSend r).out.cause = s.out.cause := rfl
@[simp] theorem State.answerSend_out_value (r : Rsp) : (s.answerSend r).out.value = s.out.value := rfl
@[simp] theorem State.answerSend_status (r : Rsp) : (s.answerSend r).status = s.status := rfl
@[simp] theorem State.answerSend_turn (r : Rsp) : (s.answerSend r).turn = s.turn := rfl
@[simp] theorem State.answerSend_tickNo (r : Rsp) : (s.answerSend r).tickNo = s.tickNo := rfl
@[simp] theorem State.answerSend_lineFeed (r : Rsp) : (s.answerSend r).lineFeed = s.lineFeed := rfl
@[simp] theorem State.answerSend_hostFeed (r : Rsp) : (s.answerSend r).hostFeed = s.hostFeed := rfl
@[simp] theorem State.answerSend_opPort (r : Rsp) : (s.answerSend r).opPort = s.opPort := rfl

@[simp] theorem State.answerRecv_cfg (r : Rsp) : (s.answerRecv r).cfg = s.cfg := rfl
@[simp] theorem State.answerRecv_cur (r : Rsp) : (s.answerRecv r).cur = s.cur := rfl
@[simp] theorem State.answerRecv_rxBuf (r : Rsp) : (s.answerRecv r).rxBuf = s.rxBuf := rfl
@[simp] theorem State.answerRecv_rxLen (r : Rsp) : (s.answerRecv r).rxLen = s.rxLen := rfl
@[simp] theorem State.answerRecv_rxShift (r : Rsp) : (s.answerRecv r).rxShift = s.rxShift := rfl
@[simp] theorem State.answerRecv_txState (r : Rsp) : (s.answerRecv r).txState = s.txState := rfl
@[simp] theorem State.answerRecv_txWidx (r : Rsp) : (s.answerRecv r).txWidx = s.txWidx := rfl
@[simp] theorem State.answerRecv_txPhase (r : Rsp) : (s.answerRecv r).txPhase = s.txPhase := rfl
@[simp] theorem State.answerRecv_txCnt (r : Rsp) : (s.answerRecv r).txCnt = s.txCnt := rfl
@[simp] theorem State.answerRecv_txBit (r : Rsp) : (s.answerRecv r).txBit = s.txBit := rfl
@[simp] theorem State.answerRecv_rxState (r : Rsp) : (s.answerRecv r).rxState = s.rxState := rfl
@[simp] theorem State.answerRecv_rxLowCnt (r : Rsp) : (s.answerRecv r).rxLowCnt = s.rxLowCnt := rfl
@[simp] theorem State.answerRecv_rxCnt (r : Rsp) : (s.answerRecv r).rxCnt = s.rxCnt := rfl
@[simp] theorem State.answerRecv_rxBit (r : Rsp) : (s.answerRecv r).rxBit = s.rxBit := rfl
@[simp] theorem State.answerRecv_ackFlag (r : Rsp) : (s.answerRecv r).ackFlag = s.ackFlag := rfl
@[simp] theorem State.answerRecv_pendingAck (r : Rsp) : (s.answerRecv r).pendingAck = s.pendingAck := rfl
@[simp] theorem State.answerRecv_curIsAck (r : Rsp) : (s.answerRecv r).curIsAck = s.curIsAck := rfl
@[simp] theorem State.answerRecv_rxEsc (r : Rsp) : (s.answerRecv r).rxEsc = s.rxEsc := rfl
@[simp] theorem State.answerRecv_rxOvf (r : Rsp) : (s.answerRecv r).rxOvf = s.rxOvf := rfl
@[simp] theorem State.answerRecv_shutdown (r : Rsp) : (s.answerRecv r).shutdown = s.shutdown := rfl
@[simp] theorem State.answerRecv_failSticky (r : Rsp) : (s.answerRecv r).failSticky = s.failSticky := rfl
@[simp] theorem State.answerRecv_framesSent (r : Rsp) : (s.answerRecv r).framesSent = s.framesSent := rfl
@[simp] theorem State.answerRecv_framesReceived (r : Rsp) : (s.answerRecv r).framesReceived = s.framesReceived := rfl
@[simp] theorem State.answerRecv_retry (r : Rsp) : (s.answerRecv r).retry = s.retry := rfl
@[simp] theorem State.answerRecv_ackTimer (r : Rsp) : (s.answerRecv r).ackTimer = s.ackTimer := rfl
@[simp] theorem State.answerRecv_outq (r : Rsp) : (s.answerRecv r).outq = s.outq := rfl
@[simp] theorem State.answerRecv_inq (r : Rsp) : (s.answerRecv r).inq = s.inq := rfl
@[simp] theorem State.answerRecv_lineOut (r : Rsp) : (s.answerRecv r).lineOut = s.lineOut := rfl
@[simp] theorem State.answerRecv_lineIn (r : Rsp) : (s.answerRecv r).lineIn = s.lineIn := rfl
@[simp] theorem State.answerRecv_hReq (r : Rsp) : (s.answerRecv r).hReq = s.hReq := rfl
@[simp] theorem State.answerRecv_hDst (r : Rsp) : (s.answerRecv r).hDst = s.hDst := rfl
@[simp] theorem State.answerRecv_hPayload (r : Rsp) : (s.answerRecv r).hPayload = s.hPayload := rfl
@[simp] theorem State.answerRecv_out_sendRsp (r : Rsp) : (s.answerRecv r).out.sendRsp = s.out.sendRsp := rfl
@[simp] theorem State.answerRecv_out_recvRsp (r : Rsp) : (s.answerRecv r).out.recvRsp = some r := rfl
@[simp] theorem State.answerRecv_out_recvd (r : Rsp) : (s.answerRecv r).out.recvd = s.out.recvd := rfl
@[simp] theorem State.answerRecv_out_evFail (r : Rsp) : (s.answerRecv r).out.evFail = s.out.evFail := rfl
@[simp] theorem State.answerRecv_out_evFailDst (r : Rsp) : (s.answerRecv r).out.evFailDst = s.out.evFailDst := rfl
@[simp] theorem State.answerRecv_out_evFailSeq (r : Rsp) : (s.answerRecv r).out.evFailSeq = s.out.evFailSeq := rfl
@[simp] theorem State.answerRecv_out_cause (r : Rsp) : (s.answerRecv r).out.cause = s.out.cause := rfl
@[simp] theorem State.answerRecv_out_value (r : Rsp) : (s.answerRecv r).out.value = s.out.value := rfl
@[simp] theorem State.answerRecv_status (r : Rsp) : (s.answerRecv r).status = s.status := rfl
@[simp] theorem State.answerRecv_turn (r : Rsp) : (s.answerRecv r).turn = s.turn := rfl
@[simp] theorem State.answerRecv_tickNo (r : Rsp) : (s.answerRecv r).tickNo = s.tickNo := rfl
@[simp] theorem State.answerRecv_lineFeed (r : Rsp) : (s.answerRecv r).lineFeed = s.lineFeed := rfl
@[simp] theorem State.answerRecv_hostFeed (r : Rsp) : (s.answerRecv r).hostFeed = s.hostFeed := rfl
@[simp] theorem State.answerRecv_opPort (r : Rsp) : (s.answerRecv r).opPort = s.opPort := rfl

@[simp] theorem State.showFrame_cfg (f : Frame) : (s.showFrame f).cfg = s.cfg := rfl
@[simp] theorem State.showFrame_cur (f : Frame) : (s.showFrame f).cur = s.cur := rfl
@[simp] theorem State.showFrame_rxBuf (f : Frame) : (s.showFrame f).rxBuf = s.rxBuf := rfl
@[simp] theorem State.showFrame_rxLen (f : Frame) : (s.showFrame f).rxLen = s.rxLen := rfl
@[simp] theorem State.showFrame_rxShift (f : Frame) : (s.showFrame f).rxShift = s.rxShift := rfl
@[simp] theorem State.showFrame_txState (f : Frame) : (s.showFrame f).txState = s.txState := rfl
@[simp] theorem State.showFrame_txWidx (f : Frame) : (s.showFrame f).txWidx = s.txWidx := rfl
@[simp] theorem State.showFrame_txPhase (f : Frame) : (s.showFrame f).txPhase = s.txPhase := rfl
@[simp] theorem State.showFrame_txCnt (f : Frame) : (s.showFrame f).txCnt = s.txCnt := rfl
@[simp] theorem State.showFrame_txBit (f : Frame) : (s.showFrame f).txBit = s.txBit := rfl
@[simp] theorem State.showFrame_rxState (f : Frame) : (s.showFrame f).rxState = s.rxState := rfl
@[simp] theorem State.showFrame_rxLowCnt (f : Frame) : (s.showFrame f).rxLowCnt = s.rxLowCnt := rfl
@[simp] theorem State.showFrame_rxCnt (f : Frame) : (s.showFrame f).rxCnt = s.rxCnt := rfl
@[simp] theorem State.showFrame_rxBit (f : Frame) : (s.showFrame f).rxBit = s.rxBit := rfl
@[simp] theorem State.showFrame_ackFlag (f : Frame) : (s.showFrame f).ackFlag = s.ackFlag := rfl
@[simp] theorem State.showFrame_pendingAck (f : Frame) : (s.showFrame f).pendingAck = s.pendingAck := rfl
@[simp] theorem State.showFrame_curIsAck (f : Frame) : (s.showFrame f).curIsAck = s.curIsAck := rfl
@[simp] theorem State.showFrame_rxEsc (f : Frame) : (s.showFrame f).rxEsc = s.rxEsc := rfl
@[simp] theorem State.showFrame_rxOvf (f : Frame) : (s.showFrame f).rxOvf = s.rxOvf := rfl
@[simp] theorem State.showFrame_shutdown (f : Frame) : (s.showFrame f).shutdown = s.shutdown := rfl
@[simp] theorem State.showFrame_failSticky (f : Frame) : (s.showFrame f).failSticky = s.failSticky := rfl
@[simp] theorem State.showFrame_framesSent (f : Frame) : (s.showFrame f).framesSent = s.framesSent := rfl
@[simp] theorem State.showFrame_framesReceived (f : Frame) : (s.showFrame f).framesReceived = s.framesReceived := rfl
@[simp] theorem State.showFrame_retry (f : Frame) : (s.showFrame f).retry = s.retry := rfl
@[simp] theorem State.showFrame_ackTimer (f : Frame) : (s.showFrame f).ackTimer = s.ackTimer := rfl
@[simp] theorem State.showFrame_outq (f : Frame) : (s.showFrame f).outq = s.outq := rfl
@[simp] theorem State.showFrame_inq (f : Frame) : (s.showFrame f).inq = s.inq := rfl
@[simp] theorem State.showFrame_lineOut (f : Frame) : (s.showFrame f).lineOut = s.lineOut := rfl
@[simp] theorem State.showFrame_lineIn (f : Frame) : (s.showFrame f).lineIn = s.lineIn := rfl
@[simp] theorem State.showFrame_hReq (f : Frame) : (s.showFrame f).hReq = s.hReq := rfl
@[simp] theorem State.showFrame_hDst (f : Frame) : (s.showFrame f).hDst = s.hDst := rfl
@[simp] theorem State.showFrame_hPayload (f : Frame) : (s.showFrame f).hPayload = s.hPayload := rfl
@[simp] theorem State.showFrame_out_sendRsp (f : Frame) : (s.showFrame f).out.sendRsp = s.out.sendRsp := rfl
@[simp] theorem State.showFrame_out_recvRsp (f : Frame) : (s.showFrame f).out.recvRsp = s.out.recvRsp := rfl
@[simp] theorem State.showFrame_out_recvd (f : Frame) : (s.showFrame f).out.recvd = ⟨f.source, f.destination, f.sequenceNumber, f.headerChecksum, f.payloadChecksum, f.payload.length, f.payload⟩ := rfl
@[simp] theorem State.showFrame_out_evFail (f : Frame) : (s.showFrame f).out.evFail = s.out.evFail := rfl
@[simp] theorem State.showFrame_out_evFailDst (f : Frame) : (s.showFrame f).out.evFailDst = s.out.evFailDst := rfl
@[simp] theorem State.showFrame_out_evFailSeq (f : Frame) : (s.showFrame f).out.evFailSeq = s.out.evFailSeq := rfl
@[simp] theorem State.showFrame_out_cause (f : Frame) : (s.showFrame f).out.cause = s.out.cause := rfl
@[simp] theorem State.showFrame_out_value (f : Frame) : (s.showFrame f).out.value = s.out.value := rfl
@[simp] theorem State.showFrame_status (f : Frame) : (s.showFrame f).status = s.status := rfl
@[simp] theorem State.showFrame_turn (f : Frame) : (s.showFrame f).turn = s.turn := rfl
@[simp] theorem State.showFrame_tickNo (f : Frame) : (s.showFrame f).tickNo = s.tickNo := rfl
@[simp] theorem State.showFrame_lineFeed (f : Frame) : (s.showFrame f).lineFeed = s.lineFeed := rfl
@[simp] theorem State.showFrame_hostFeed (f : Frame) : (s.showFrame f).hostFeed = s.hostFeed := rfl
@[simp] theorem State.showFrame_opPort (f : Frame) : (s.showFrame f).opPort = s.opPort := rfl

@[simp] theorem State.present_cfg (v : FnValue) : (s.present v).cfg = s.cfg := rfl
@[simp] theorem State.present_cur (v : FnValue) : (s.present v).cur = s.cur := rfl
@[simp] theorem State.present_rxBuf (v : FnValue) : (s.present v).rxBuf = s.rxBuf := rfl
@[simp] theorem State.present_rxLen (v : FnValue) : (s.present v).rxLen = s.rxLen := rfl
@[simp] theorem State.present_rxShift (v : FnValue) : (s.present v).rxShift = s.rxShift := rfl
@[simp] theorem State.present_txState (v : FnValue) : (s.present v).txState = s.txState := rfl
@[simp] theorem State.present_txWidx (v : FnValue) : (s.present v).txWidx = s.txWidx := rfl
@[simp] theorem State.present_txPhase (v : FnValue) : (s.present v).txPhase = s.txPhase := rfl
@[simp] theorem State.present_txCnt (v : FnValue) : (s.present v).txCnt = s.txCnt := rfl
@[simp] theorem State.present_txBit (v : FnValue) : (s.present v).txBit = s.txBit := rfl
@[simp] theorem State.present_rxState (v : FnValue) : (s.present v).rxState = s.rxState := rfl
@[simp] theorem State.present_rxLowCnt (v : FnValue) : (s.present v).rxLowCnt = s.rxLowCnt := rfl
@[simp] theorem State.present_rxCnt (v : FnValue) : (s.present v).rxCnt = s.rxCnt := rfl
@[simp] theorem State.present_rxBit (v : FnValue) : (s.present v).rxBit = s.rxBit := rfl
@[simp] theorem State.present_ackFlag (v : FnValue) : (s.present v).ackFlag = s.ackFlag := rfl
@[simp] theorem State.present_pendingAck (v : FnValue) : (s.present v).pendingAck = s.pendingAck := rfl
@[simp] theorem State.present_curIsAck (v : FnValue) : (s.present v).curIsAck = s.curIsAck := rfl
@[simp] theorem State.present_rxEsc (v : FnValue) : (s.present v).rxEsc = s.rxEsc := rfl
@[simp] theorem State.present_rxOvf (v : FnValue) : (s.present v).rxOvf = s.rxOvf := rfl
@[simp] theorem State.present_shutdown (v : FnValue) : (s.present v).shutdown = s.shutdown := rfl
@[simp] theorem State.present_failSticky (v : FnValue) : (s.present v).failSticky = s.failSticky := rfl
@[simp] theorem State.present_framesSent (v : FnValue) : (s.present v).framesSent = s.framesSent := rfl
@[simp] theorem State.present_framesReceived (v : FnValue) : (s.present v).framesReceived = s.framesReceived := rfl
@[simp] theorem State.present_retry (v : FnValue) : (s.present v).retry = s.retry := rfl
@[simp] theorem State.present_ackTimer (v : FnValue) : (s.present v).ackTimer = s.ackTimer := rfl
@[simp] theorem State.present_outq (v : FnValue) : (s.present v).outq = s.outq := rfl
@[simp] theorem State.present_inq (v : FnValue) : (s.present v).inq = s.inq := rfl
@[simp] theorem State.present_lineOut (v : FnValue) : (s.present v).lineOut = s.lineOut := rfl
@[simp] theorem State.present_lineIn (v : FnValue) : (s.present v).lineIn = s.lineIn := rfl
@[simp] theorem State.present_hReq (v : FnValue) : (s.present v).hReq = s.hReq := rfl
@[simp] theorem State.present_hDst (v : FnValue) : (s.present v).hDst = s.hDst := rfl
@[simp] theorem State.present_hPayload (v : FnValue) : (s.present v).hPayload = s.hPayload := rfl
@[simp] theorem State.present_out_sendRsp (v : FnValue) : (s.present v).out.sendRsp = s.out.sendRsp := rfl
@[simp] theorem State.present_out_recvRsp (v : FnValue) : (s.present v).out.recvRsp = s.out.recvRsp := rfl
@[simp] theorem State.present_out_recvd (v : FnValue) : (s.present v).out.recvd = s.out.recvd := rfl
@[simp] theorem State.present_out_evFail (v : FnValue) : (s.present v).out.evFail = s.out.evFail := rfl
@[simp] theorem State.present_out_evFailDst (v : FnValue) : (s.present v).out.evFailDst = s.out.evFailDst := rfl
@[simp] theorem State.present_out_evFailSeq (v : FnValue) : (s.present v).out.evFailSeq = s.out.evFailSeq := rfl
@[simp] theorem State.present_out_cause (v : FnValue) : (s.present v).out.cause = s.out.cause := rfl
@[simp] theorem State.present_out_value (v : FnValue) : (s.present v).out.value = v := rfl
@[simp] theorem State.present_status (v : FnValue) : (s.present v).status = s.status := rfl
@[simp] theorem State.present_turn (v : FnValue) : (s.present v).turn = s.turn := rfl
@[simp] theorem State.present_tickNo (v : FnValue) : (s.present v).tickNo = s.tickNo := rfl
@[simp] theorem State.present_lineFeed (v : FnValue) : (s.present v).lineFeed = s.lineFeed := rfl
@[simp] theorem State.present_hostFeed (v : FnValue) : (s.present v).hostFeed = s.hostFeed := rfl
@[simp] theorem State.present_opPort (v : FnValue) : (s.present v).opPort = s.opPort := rfl

@[simp] theorem State.raiseDeliveryFailed_cfg (d n : Byte) : (s.raiseDeliveryFailed d n).cfg = s.cfg := rfl
@[simp] theorem State.raiseDeliveryFailed_cur (d n : Byte) : (s.raiseDeliveryFailed d n).cur = s.cur := rfl
@[simp] theorem State.raiseDeliveryFailed_rxBuf (d n : Byte) : (s.raiseDeliveryFailed d n).rxBuf = s.rxBuf := rfl
@[simp] theorem State.raiseDeliveryFailed_rxLen (d n : Byte) : (s.raiseDeliveryFailed d n).rxLen = s.rxLen := rfl
@[simp] theorem State.raiseDeliveryFailed_rxShift (d n : Byte) : (s.raiseDeliveryFailed d n).rxShift = s.rxShift := rfl
@[simp] theorem State.raiseDeliveryFailed_txState (d n : Byte) : (s.raiseDeliveryFailed d n).txState = s.txState := rfl
@[simp] theorem State.raiseDeliveryFailed_txWidx (d n : Byte) : (s.raiseDeliveryFailed d n).txWidx = s.txWidx := rfl
@[simp] theorem State.raiseDeliveryFailed_txPhase (d n : Byte) : (s.raiseDeliveryFailed d n).txPhase = s.txPhase := rfl
@[simp] theorem State.raiseDeliveryFailed_txCnt (d n : Byte) : (s.raiseDeliveryFailed d n).txCnt = s.txCnt := rfl
@[simp] theorem State.raiseDeliveryFailed_txBit (d n : Byte) : (s.raiseDeliveryFailed d n).txBit = s.txBit := rfl
@[simp] theorem State.raiseDeliveryFailed_rxState (d n : Byte) : (s.raiseDeliveryFailed d n).rxState = s.rxState := rfl
@[simp] theorem State.raiseDeliveryFailed_rxLowCnt (d n : Byte) : (s.raiseDeliveryFailed d n).rxLowCnt = s.rxLowCnt := rfl
@[simp] theorem State.raiseDeliveryFailed_rxCnt (d n : Byte) : (s.raiseDeliveryFailed d n).rxCnt = s.rxCnt := rfl
@[simp] theorem State.raiseDeliveryFailed_rxBit (d n : Byte) : (s.raiseDeliveryFailed d n).rxBit = s.rxBit := rfl
@[simp] theorem State.raiseDeliveryFailed_ackFlag (d n : Byte) : (s.raiseDeliveryFailed d n).ackFlag = s.ackFlag := rfl
@[simp] theorem State.raiseDeliveryFailed_pendingAck (d n : Byte) : (s.raiseDeliveryFailed d n).pendingAck = s.pendingAck := rfl
@[simp] theorem State.raiseDeliveryFailed_curIsAck (d n : Byte) : (s.raiseDeliveryFailed d n).curIsAck = s.curIsAck := rfl
@[simp] theorem State.raiseDeliveryFailed_rxEsc (d n : Byte) : (s.raiseDeliveryFailed d n).rxEsc = s.rxEsc := rfl
@[simp] theorem State.raiseDeliveryFailed_rxOvf (d n : Byte) : (s.raiseDeliveryFailed d n).rxOvf = s.rxOvf := rfl
@[simp] theorem State.raiseDeliveryFailed_shutdown (d n : Byte) : (s.raiseDeliveryFailed d n).shutdown = s.shutdown := rfl
@[simp] theorem State.raiseDeliveryFailed_failSticky (d n : Byte) : (s.raiseDeliveryFailed d n).failSticky = s.failSticky := rfl
@[simp] theorem State.raiseDeliveryFailed_framesSent (d n : Byte) : (s.raiseDeliveryFailed d n).framesSent = s.framesSent := rfl
@[simp] theorem State.raiseDeliveryFailed_framesReceived (d n : Byte) : (s.raiseDeliveryFailed d n).framesReceived = s.framesReceived := rfl
@[simp] theorem State.raiseDeliveryFailed_retry (d n : Byte) : (s.raiseDeliveryFailed d n).retry = s.retry := rfl
@[simp] theorem State.raiseDeliveryFailed_ackTimer (d n : Byte) : (s.raiseDeliveryFailed d n).ackTimer = s.ackTimer := rfl
@[simp] theorem State.raiseDeliveryFailed_outq (d n : Byte) : (s.raiseDeliveryFailed d n).outq = s.outq := rfl
@[simp] theorem State.raiseDeliveryFailed_inq (d n : Byte) : (s.raiseDeliveryFailed d n).inq = s.inq := rfl
@[simp] theorem State.raiseDeliveryFailed_lineOut (d n : Byte) : (s.raiseDeliveryFailed d n).lineOut = s.lineOut := rfl
@[simp] theorem State.raiseDeliveryFailed_lineIn (d n : Byte) : (s.raiseDeliveryFailed d n).lineIn = s.lineIn := rfl
@[simp] theorem State.raiseDeliveryFailed_hReq (d n : Byte) : (s.raiseDeliveryFailed d n).hReq = s.hReq := rfl
@[simp] theorem State.raiseDeliveryFailed_hDst (d n : Byte) : (s.raiseDeliveryFailed d n).hDst = s.hDst := rfl
@[simp] theorem State.raiseDeliveryFailed_hPayload (d n : Byte) : (s.raiseDeliveryFailed d n).hPayload = s.hPayload := rfl
@[simp] theorem State.raiseDeliveryFailed_out_sendRsp (d n : Byte) : (s.raiseDeliveryFailed d n).out.sendRsp = s.out.sendRsp := rfl
@[simp] theorem State.raiseDeliveryFailed_out_recvRsp (d n : Byte) : (s.raiseDeliveryFailed d n).out.recvRsp = s.out.recvRsp := rfl
@[simp] theorem State.raiseDeliveryFailed_out_recvd (d n : Byte) : (s.raiseDeliveryFailed d n).out.recvd = s.out.recvd := rfl
@[simp] theorem State.raiseDeliveryFailed_out_evFail (d n : Byte) : (s.raiseDeliveryFailed d n).out.evFail = true := rfl
@[simp] theorem State.raiseDeliveryFailed_out_evFailDst (d n : Byte) : (s.raiseDeliveryFailed d n).out.evFailDst = d := rfl
@[simp] theorem State.raiseDeliveryFailed_out_evFailSeq (d n : Byte) : (s.raiseDeliveryFailed d n).out.evFailSeq = n := rfl
@[simp] theorem State.raiseDeliveryFailed_out_cause (d n : Byte) : (s.raiseDeliveryFailed d n).out.cause = s.out.cause := rfl
@[simp] theorem State.raiseDeliveryFailed_out_value (d n : Byte) : (s.raiseDeliveryFailed d n).out.value = s.out.value := rfl
@[simp] theorem State.raiseDeliveryFailed_status (d n : Byte) : (s.raiseDeliveryFailed d n).status = s.status := rfl
@[simp] theorem State.raiseDeliveryFailed_turn (d n : Byte) : (s.raiseDeliveryFailed d n).turn = s.turn := rfl
@[simp] theorem State.raiseDeliveryFailed_tickNo (d n : Byte) : (s.raiseDeliveryFailed d n).tickNo = s.tickNo := rfl
@[simp] theorem State.raiseDeliveryFailed_lineFeed (d n : Byte) : (s.raiseDeliveryFailed d n).lineFeed = s.lineFeed := rfl
@[simp] theorem State.raiseDeliveryFailed_hostFeed (d n : Byte) : (s.raiseDeliveryFailed d n).hostFeed = s.hostFeed := rfl
@[simp] theorem State.raiseDeliveryFailed_opPort (d n : Byte) : (s.raiseDeliveryFailed d n).opPort = s.opPort := rfl

@[simp] theorem State.resumeAfterFailure_cfg : s.resumeAfterFailure.cfg = s.cfg := rfl
@[simp] theorem State.resumeAfterFailure_cur : s.resumeAfterFailure.cur = none := rfl
@[simp] theorem State.resumeAfterFailure_rxBuf : s.resumeAfterFailure.rxBuf = s.rxBuf := rfl
@[simp] theorem State.resumeAfterFailure_rxLen : s.resumeAfterFailure.rxLen = s.rxLen := rfl
@[simp] theorem State.resumeAfterFailure_rxShift : s.resumeAfterFailure.rxShift = s.rxShift := rfl
@[simp] theorem State.resumeAfterFailure_txState : s.resumeAfterFailure.txState = .idle := rfl
@[simp] theorem State.resumeAfterFailure_txWidx : s.resumeAfterFailure.txWidx = s.txWidx := rfl
@[simp] theorem State.resumeAfterFailure_txPhase : s.resumeAfterFailure.txPhase = s.txPhase := rfl
@[simp] theorem State.resumeAfterFailure_txCnt : s.resumeAfterFailure.txCnt = s.txCnt := rfl
@[simp] theorem State.resumeAfterFailure_txBit : s.resumeAfterFailure.txBit = s.txBit := rfl
@[simp] theorem State.resumeAfterFailure_rxState : s.resumeAfterFailure.rxState = s.rxState := rfl
@[simp] theorem State.resumeAfterFailure_rxLowCnt : s.resumeAfterFailure.rxLowCnt = s.rxLowCnt := rfl
@[simp] theorem State.resumeAfterFailure_rxCnt : s.resumeAfterFailure.rxCnt = s.rxCnt := rfl
@[simp] theorem State.resumeAfterFailure_rxBit : s.resumeAfterFailure.rxBit = s.rxBit := rfl
@[simp] theorem State.resumeAfterFailure_ackFlag : s.resumeAfterFailure.ackFlag = s.ackFlag := rfl
@[simp] theorem State.resumeAfterFailure_pendingAck : s.resumeAfterFailure.pendingAck = s.pendingAck := rfl
@[simp] theorem State.resumeAfterFailure_curIsAck : s.resumeAfterFailure.curIsAck = s.curIsAck := rfl
@[simp] theorem State.resumeAfterFailure_rxEsc : s.resumeAfterFailure.rxEsc = s.rxEsc := rfl
@[simp] theorem State.resumeAfterFailure_rxOvf : s.resumeAfterFailure.rxOvf = s.rxOvf := rfl
@[simp] theorem State.resumeAfterFailure_shutdown : s.resumeAfterFailure.shutdown = s.shutdown := rfl
@[simp] theorem State.resumeAfterFailure_failSticky : s.resumeAfterFailure.failSticky = true := rfl
@[simp] theorem State.resumeAfterFailure_framesSent : s.resumeAfterFailure.framesSent = s.framesSent := rfl
@[simp] theorem State.resumeAfterFailure_framesReceived : s.resumeAfterFailure.framesReceived = s.framesReceived := rfl
@[simp] theorem State.resumeAfterFailure_retry : s.resumeAfterFailure.retry = 0 := rfl
@[simp] theorem State.resumeAfterFailure_ackTimer : s.resumeAfterFailure.ackTimer = s.ackTimer := rfl
@[simp] theorem State.resumeAfterFailure_outq : s.resumeAfterFailure.outq = s.outq := rfl
@[simp] theorem State.resumeAfterFailure_inq : s.resumeAfterFailure.inq = s.inq := rfl
@[simp] theorem State.resumeAfterFailure_lineOut : s.resumeAfterFailure.lineOut = s.lineOut := rfl
@[simp] theorem State.resumeAfterFailure_lineIn : s.resumeAfterFailure.lineIn = s.lineIn := rfl
@[simp] theorem State.resumeAfterFailure_hReq : s.resumeAfterFailure.hReq = s.hReq := rfl
@[simp] theorem State.resumeAfterFailure_hDst : s.resumeAfterFailure.hDst = s.hDst := rfl
@[simp] theorem State.resumeAfterFailure_hPayload : s.resumeAfterFailure.hPayload = s.hPayload := rfl
@[simp] theorem State.resumeAfterFailure_out : s.resumeAfterFailure.out = s.out := rfl
@[simp] theorem State.resumeAfterFailure_status : s.resumeAfterFailure.status = s.status := rfl
@[simp] theorem State.resumeAfterFailure_turn : s.resumeAfterFailure.turn = s.turn := rfl
@[simp] theorem State.resumeAfterFailure_tickNo : s.resumeAfterFailure.tickNo = s.tickNo := rfl
@[simp] theorem State.resumeAfterFailure_lineFeed : s.resumeAfterFailure.lineFeed = s.lineFeed := rfl
@[simp] theorem State.resumeAfterFailure_hostFeed : s.resumeAfterFailure.hostFeed = s.hostFeed := rfl
@[simp] theorem State.resumeAfterFailure_opPort : s.resumeAfterFailure.opPort = s.opPort := rfl

@[simp] theorem State.haltTx_cfg : s.haltTx.cfg = s.cfg := rfl
@[simp] theorem State.haltTx_cur : s.haltTx.cur = s.cur := rfl
@[simp] theorem State.haltTx_rxBuf : s.haltTx.rxBuf = s.rxBuf := rfl
@[simp] theorem State.haltTx_rxLen : s.haltTx.rxLen = s.rxLen := rfl
@[simp] theorem State.haltTx_rxShift : s.haltTx.rxShift = s.rxShift := rfl
@[simp] theorem State.haltTx_txState : s.haltTx.txState = .halted := rfl
@[simp] theorem State.haltTx_txWidx : s.haltTx.txWidx = s.txWidx := rfl
@[simp] theorem State.haltTx_txPhase : s.haltTx.txPhase = s.txPhase := rfl
@[simp] theorem State.haltTx_txCnt : s.haltTx.txCnt = s.txCnt := rfl
@[simp] theorem State.haltTx_txBit : s.haltTx.txBit = s.txBit := rfl
@[simp] theorem State.haltTx_rxState : s.haltTx.rxState = s.rxState := rfl
@[simp] theorem State.haltTx_rxLowCnt : s.haltTx.rxLowCnt = s.rxLowCnt := rfl
@[simp] theorem State.haltTx_rxCnt : s.haltTx.rxCnt = s.rxCnt := rfl
@[simp] theorem State.haltTx_rxBit : s.haltTx.rxBit = s.rxBit := rfl
@[simp] theorem State.haltTx_ackFlag : s.haltTx.ackFlag = s.ackFlag := rfl
@[simp] theorem State.haltTx_pendingAck : s.haltTx.pendingAck = s.pendingAck := rfl
@[simp] theorem State.haltTx_curIsAck : s.haltTx.curIsAck = s.curIsAck := rfl
@[simp] theorem State.haltTx_rxEsc : s.haltTx.rxEsc = s.rxEsc := rfl
@[simp] theorem State.haltTx_rxOvf : s.haltTx.rxOvf = s.rxOvf := rfl
@[simp] theorem State.haltTx_shutdown : s.haltTx.shutdown = s.shutdown := rfl
@[simp] theorem State.haltTx_failSticky : s.haltTx.failSticky = s.failSticky := rfl
@[simp] theorem State.haltTx_framesSent : s.haltTx.framesSent = s.framesSent := rfl
@[simp] theorem State.haltTx_framesReceived : s.haltTx.framesReceived = s.framesReceived := rfl
@[simp] theorem State.haltTx_retry : s.haltTx.retry = s.retry := rfl
@[simp] theorem State.haltTx_ackTimer : s.haltTx.ackTimer = s.ackTimer := rfl
@[simp] theorem State.haltTx_outq : s.haltTx.outq = s.outq := rfl
@[simp] theorem State.haltTx_inq : s.haltTx.inq = s.inq := rfl
@[simp] theorem State.haltTx_lineOut : s.haltTx.lineOut = .neutral := rfl
@[simp] theorem State.haltTx_lineIn : s.haltTx.lineIn = s.lineIn := rfl
@[simp] theorem State.haltTx_hReq : s.haltTx.hReq = s.hReq := rfl
@[simp] theorem State.haltTx_hDst : s.haltTx.hDst = s.hDst := rfl
@[simp] theorem State.haltTx_hPayload : s.haltTx.hPayload = s.hPayload := rfl
@[simp] theorem State.haltTx_out : s.haltTx.out = s.out := rfl
@[simp] theorem State.haltTx_status : s.haltTx.status = s.status := rfl
@[simp] theorem State.haltTx_turn : s.haltTx.turn = s.turn := rfl
@[simp] theorem State.haltTx_tickNo : s.haltTx.tickNo = s.tickNo := rfl
@[simp] theorem State.haltTx_lineFeed : s.haltTx.lineFeed = s.lineFeed := rfl
@[simp] theorem State.haltTx_hostFeed : s.haltTx.hostFeed = s.hostFeed := rfl
@[simp] theorem State.haltTx_opPort : s.haltTx.opPort = s.opPort := rfl

@[simp] theorem State.haltRx_cfg : s.haltRx.cfg = s.cfg := rfl
@[simp] theorem State.haltRx_cur : s.haltRx.cur = s.cur := rfl
@[simp] theorem State.haltRx_rxBuf : s.haltRx.rxBuf = s.rxBuf := rfl
@[simp] theorem State.haltRx_rxLen : s.haltRx.rxLen = s.rxLen := rfl
@[simp] theorem State.haltRx_rxShift : s.haltRx.rxShift = s.rxShift := rfl
@[simp] theorem State.haltRx_txState : s.haltRx.txState = s.txState := rfl
@[simp] theorem State.haltRx_txWidx : s.haltRx.txWidx = s.txWidx := rfl
@[simp] theorem State.haltRx_txPhase : s.haltRx.txPhase = s.txPhase := rfl
@[simp] theorem State.haltRx_txCnt : s.haltRx.txCnt = s.txCnt := rfl
@[simp] theorem State.haltRx_txBit : s.haltRx.txBit = s.txBit := rfl
@[simp] theorem State.haltRx_rxState : s.haltRx.rxState = .halted := rfl
@[simp] theorem State.haltRx_rxLowCnt : s.haltRx.rxLowCnt = s.rxLowCnt := rfl
@[simp] theorem State.haltRx_rxCnt : s.haltRx.rxCnt = s.rxCnt := rfl
@[simp] theorem State.haltRx_rxBit : s.haltRx.rxBit = s.rxBit := rfl
@[simp] theorem State.haltRx_ackFlag : s.haltRx.ackFlag = s.ackFlag := rfl
@[simp] theorem State.haltRx_pendingAck : s.haltRx.pendingAck = s.pendingAck := rfl
@[simp] theorem State.haltRx_curIsAck : s.haltRx.curIsAck = s.curIsAck := rfl
@[simp] theorem State.haltRx_rxEsc : s.haltRx.rxEsc = s.rxEsc := rfl
@[simp] theorem State.haltRx_rxOvf : s.haltRx.rxOvf = s.rxOvf := rfl
@[simp] theorem State.haltRx_shutdown : s.haltRx.shutdown = s.shutdown := rfl
@[simp] theorem State.haltRx_failSticky : s.haltRx.failSticky = s.failSticky := rfl
@[simp] theorem State.haltRx_framesSent : s.haltRx.framesSent = s.framesSent := rfl
@[simp] theorem State.haltRx_framesReceived : s.haltRx.framesReceived = s.framesReceived := rfl
@[simp] theorem State.haltRx_retry : s.haltRx.retry = s.retry := rfl
@[simp] theorem State.haltRx_ackTimer : s.haltRx.ackTimer = s.ackTimer := rfl
@[simp] theorem State.haltRx_outq : s.haltRx.outq = s.outq := rfl
@[simp] theorem State.haltRx_inq : s.haltRx.inq = s.inq := rfl
@[simp] theorem State.haltRx_lineOut : s.haltRx.lineOut = s.lineOut := rfl
@[simp] theorem State.haltRx_lineIn : s.haltRx.lineIn = s.lineIn := rfl
@[simp] theorem State.haltRx_hReq : s.haltRx.hReq = s.hReq := rfl
@[simp] theorem State.haltRx_hDst : s.haltRx.hDst = s.hDst := rfl
@[simp] theorem State.haltRx_hPayload : s.haltRx.hPayload = s.hPayload := rfl
@[simp] theorem State.haltRx_out : s.haltRx.out = s.out := rfl
@[simp] theorem State.haltRx_status : s.haltRx.status = s.status := rfl
@[simp] theorem State.haltRx_turn : s.haltRx.turn = s.turn := rfl
@[simp] theorem State.haltRx_tickNo : s.haltRx.tickNo = s.tickNo := rfl
@[simp] theorem State.haltRx_lineFeed : s.haltRx.lineFeed = s.lineFeed := rfl
@[simp] theorem State.haltRx_hostFeed : s.haltRx.hostFeed = s.hostFeed := rfl
@[simp] theorem State.haltRx_opPort : s.haltRx.opPort = s.opPort := rfl

@[simp] theorem State.startSending_cfg : s.startSending.cfg = s.cfg := rfl
@[simp] theorem State.startSending_cur : s.startSending.cur = s.cur := rfl
@[simp] theorem State.startSending_rxBuf : s.startSending.rxBuf = s.rxBuf := rfl
@[simp] theorem State.startSending_rxLen : s.startSending.rxLen = s.rxLen := rfl
@[simp] theorem State.startSending_rxShift : s.startSending.rxShift = s.rxShift := rfl
@[simp] theorem State.startSending_txState : s.startSending.txState = .sending := rfl
@[simp] theorem State.startSending_txWidx : s.startSending.txWidx = 0 := rfl
@[simp] theorem State.startSending_txPhase : s.startSending.txPhase = .guard := rfl
@[simp] theorem State.startSending_txCnt : s.startSending.txCnt = 0 := rfl
@[simp] theorem State.startSending_txBit : s.startSending.txBit = 0 := rfl
@[simp] theorem State.startSending_rxState : s.startSending.rxState = s.rxState := rfl
@[simp] theorem State.startSending_rxLowCnt : s.startSending.rxLowCnt = s.rxLowCnt := rfl
@[simp] theorem State.startSending_rxCnt : s.startSending.rxCnt = s.rxCnt := rfl
@[simp] theorem State.startSending_rxBit : s.startSending.rxBit = s.rxBit := rfl
@[simp] theorem State.startSending_ackFlag : s.startSending.ackFlag = s.ackFlag := rfl
@[simp] theorem State.startSending_pendingAck : s.startSending.pendingAck = s.pendingAck := rfl
@[simp] theorem State.startSending_curIsAck : s.startSending.curIsAck = s.curIsAck := rfl
@[simp] theorem State.startSending_rxEsc : s.startSending.rxEsc = s.rxEsc := rfl
@[simp] theorem State.startSending_rxOvf : s.startSending.rxOvf = s.rxOvf := rfl
@[simp] theorem State.startSending_shutdown : s.startSending.shutdown = s.shutdown := rfl
@[simp] theorem State.startSending_failSticky : s.startSending.failSticky = s.failSticky := rfl
@[simp] theorem State.startSending_framesSent : s.startSending.framesSent = s.framesSent := rfl
@[simp] theorem State.startSending_framesReceived : s.startSending.framesReceived = s.framesReceived := rfl
@[simp] theorem State.startSending_retry : s.startSending.retry = s.retry := rfl
@[simp] theorem State.startSending_ackTimer : s.startSending.ackTimer = s.ackTimer := rfl
@[simp] theorem State.startSending_outq : s.startSending.outq = s.outq := rfl
@[simp] theorem State.startSending_inq : s.startSending.inq = s.inq := rfl
@[simp] theorem State.startSending_lineOut : s.startSending.lineOut = s.lineOut := rfl
@[simp] theorem State.startSending_lineIn : s.startSending.lineIn = s.lineIn := rfl
@[simp] theorem State.startSending_hReq : s.startSending.hReq = s.hReq := rfl
@[simp] theorem State.startSending_hDst : s.startSending.hDst = s.hDst := rfl
@[simp] theorem State.startSending_hPayload : s.startSending.hPayload = s.hPayload := rfl
@[simp] theorem State.startSending_out : s.startSending.out = s.out := rfl
@[simp] theorem State.startSending_status : s.startSending.status = s.status := rfl
@[simp] theorem State.startSending_turn : s.startSending.turn = s.turn := rfl
@[simp] theorem State.startSending_tickNo : s.startSending.tickNo = s.tickNo := rfl
@[simp] theorem State.startSending_lineFeed : s.startSending.lineFeed = s.lineFeed := rfl
@[simp] theorem State.startSending_hostFeed : s.startSending.hostFeed = s.hostFeed := rfl
@[simp] theorem State.startSending_opPort : s.startSending.opPort = s.opPort := rfl

@[simp] theorem State.resetRegisters_cfg : s.resetRegisters.cfg = s.cfg := rfl
@[simp] theorem State.resetRegisters_cur : s.resetRegisters.cur = none := rfl
@[simp] theorem State.resetRegisters_rxBuf : s.resetRegisters.rxBuf = ⟨[]⟩ := rfl
@[simp] theorem State.resetRegisters_rxLen : s.resetRegisters.rxLen = 0 := rfl
@[simp] theorem State.resetRegisters_rxShift : s.resetRegisters.rxShift = 0 := rfl
@[simp] theorem State.resetRegisters_txState : s.resetRegisters.txState = .idle := rfl
@[simp] theorem State.resetRegisters_txWidx : s.resetRegisters.txWidx = 0 := rfl
@[simp] theorem State.resetRegisters_txPhase : s.resetRegisters.txPhase = .guard := rfl
@[simp] theorem State.resetRegisters_txCnt : s.resetRegisters.txCnt = 0 := rfl
@[simp] theorem State.resetRegisters_txBit : s.resetRegisters.txBit = 0 := rfl
@[simp] theorem State.resetRegisters_rxState : s.resetRegisters.rxState = .hunt := rfl
@[simp] theorem State.resetRegisters_rxLowCnt : s.resetRegisters.rxLowCnt = 0 := rfl
@[simp] theorem State.resetRegisters_rxCnt : s.resetRegisters.rxCnt = 0 := rfl
@[simp] theorem State.resetRegisters_rxBit : s.resetRegisters.rxBit = 0 := rfl
@[simp] theorem State.resetRegisters_ackFlag : s.resetRegisters.ackFlag = false := rfl
@[simp] theorem State.resetRegisters_pendingAck : s.resetRegisters.pendingAck = none := rfl
@[simp] theorem State.resetRegisters_curIsAck : s.resetRegisters.curIsAck = false := rfl
@[simp] theorem State.resetRegisters_rxEsc : s.resetRegisters.rxEsc = false := rfl
@[simp] theorem State.resetRegisters_rxOvf : s.resetRegisters.rxOvf = false := rfl
@[simp] theorem State.resetRegisters_shutdown : s.resetRegisters.shutdown = false := rfl
@[simp] theorem State.resetRegisters_failSticky : s.resetRegisters.failSticky = false := rfl
@[simp] theorem State.resetRegisters_framesSent : s.resetRegisters.framesSent = 0 := rfl
@[simp] theorem State.resetRegisters_framesReceived : s.resetRegisters.framesReceived = 0 := rfl
@[simp] theorem State.resetRegisters_retry : s.resetRegisters.retry = 0 := rfl
@[simp] theorem State.resetRegisters_ackTimer : s.resetRegisters.ackTimer = 0 := rfl
@[simp] theorem State.resetRegisters_outq : s.resetRegisters.outq = [] := rfl
@[simp] theorem State.resetRegisters_inq : s.resetRegisters.inq = [] := rfl
@[simp] theorem State.resetRegisters_lineOut : s.resetRegisters.lineOut = .neutral := rfl
@[simp] theorem State.resetRegisters_lineIn : s.resetRegisters.lineIn = s.lineIn := rfl
@[simp] theorem State.resetRegisters_hReq : s.resetRegisters.hReq = s.hReq := rfl
@[simp] theorem State.resetRegisters_hDst : s.resetRegisters.hDst = s.hDst := rfl
@[simp] theorem State.resetRegisters_hPayload : s.resetRegisters.hPayload = s.hPayload := rfl
@[simp] theorem State.resetRegisters_out : s.resetRegisters.out = Outputs.rest := rfl
@[simp] theorem State.resetRegisters_status : s.resetRegisters.status = s.status := rfl
@[simp] theorem State.resetRegisters_turn : s.resetRegisters.turn = s.turn := rfl
@[simp] theorem State.resetRegisters_tickNo : s.resetRegisters.tickNo = s.tickNo := rfl
@[simp] theorem State.resetRegisters_lineFeed : s.resetRegisters.lineFeed = s.lineFeed := rfl
@[simp] theorem State.resetRegisters_hostFeed : s.resetRegisters.hostFeed = s.hostFeed := rfl
@[simp] theorem State.resetRegisters_opPort : s.resetRegisters.opPort = s.opPort := rfl

end Updates

end Sys2Proof.Machine
end

