-- ==== Sys2Proof/Laws/Memory.lean ====
section
/-! SUPPORT. The byte storage: a read after a write, the canonical form and its uniqueness. -/

namespace Sys2Proof.Machine

theorem readCells_of_lt : ∀ (l : List Host.Cell) (lo a : Nat),
    cellsWf lo l = true → a < lo → readCells l a = Memory.unlisted
  | [], _, _, _, _ => rfl
  | (a', b') :: rest, lo, a, h, ha => by
    simp only [cellsWf, Bool.and_eq_true, decide_eq_true_eq] at h
    have hne : a ≠ a' := by omega
    simp only [readCells, hne, if_false]
    exact readCells_of_lt rest (a' + 1) a h.2 (by omega)

theorem cellsWf_mono : ∀ (l : List Host.Cell) (lo lo' : Nat),
    cellsWf lo l = true → lo' ≤ lo → cellsWf lo' l = true
  | [], _, _, _, _ => rfl
  | (a, b) :: rest, lo, lo', h, hle => by
    simp only [cellsWf, Bool.and_eq_true, decide_eq_true_eq] at h ⊢
    exact ⟨⟨by omega, h.1.2⟩, h.2⟩

theorem writeCells_wf : ∀ (l : List Host.Cell) (lo a : Nat) (b : Byte),
    cellsWf lo l = true → lo ≤ a → cellsWf lo (writeCells l a b) = true
  | [], lo, a, b, _, hle => by
    simp only [writeCells]
    split <;> simp_all [cellsWf]
  | (a', b') :: rest, lo, a, b, h, hle => by
    have h' := h
    simp only [cellsWf, Bool.and_eq_true, decide_eq_true_eq] at h'
    simp only [writeCells]
    split
    · split
      · exact h
      · rename_i hlt hb
        simp only [cellsWf, Bool.and_eq_true, decide_eq_true_eq]
        exact ⟨⟨hle, hb⟩, ⟨by omega, h'.1.2⟩, h'.2⟩
    · split
      · rename_i heq
        split
        · exact cellsWf_mono rest (a' + 1) lo h'.2 (by omega)
        · rename_i hb
          simp only [cellsWf, Bool.and_eq_true, decide_eq_true_eq]
          exact ⟨⟨hle, hb⟩, heq ▸ h'.2⟩
      · simp only [cellsWf, Bool.and_eq_true, decide_eq_true_eq]
        exact ⟨h'.1, writeCells_wf rest (a' + 1) a b h'.2 (by omega)⟩

theorem readCells_writeCells_same : ∀ (l : List Host.Cell) (lo a : Nat) (b : Byte),
    cellsWf lo l = true → readCells (writeCells l a b) a = b
  | [], _, a, b, _ => by
    simp only [writeCells]
    split <;> simp_all [readCells]
  | (a', b') :: rest, lo, a, b, h => by
    simp only [cellsWf, Bool.and_eq_true, decide_eq_true_eq] at h
    simp only [writeCells]
    split
    · rename_i hlt
      split
      · rename_i hb
        have hne : a ≠ a' := by omega
        simp only [readCells, hne, if_false, hb]
        exact readCells_of_lt rest (a' + 1) a h.2 (by omega)
      · simp [readCells]
    · split
      · rename_i heq
        split
        · rename_i hb
          rw [hb]
          exact readCells_of_lt rest (a' + 1) a h.2 (by omega)
        · simp [readCells]
      · rename_i hne
        simp only [readCells, hne, if_false]
        exact readCells_writeCells_same rest (a' + 1) a b h.2

theorem readCells_writeCells_ne : ∀ (l : List Host.Cell) (a c : Nat) (b : Byte),
    c ≠ a → readCells (writeCells l a b) c = readCells l c
  | [], a, c, b, hne => by
    simp only [writeCells]
    split <;> simp_all [readCells]
  | (a', b') :: rest, a, c, b, hne => by
    simp only [writeCells]
    split
    · split <;> simp [readCells, hne]
    · split
      · rename_i heq
        subst heq
        split <;> simp [readCells, hne]
      · simp only [readCells, readCells_writeCells_ne rest a c b hne]

/-- A read of the byte just written gives it back. -/
theorem Memory.read_write_same (m : Memory) (a : Nat) (b : Byte) (h : m.wf = true) :
    (m.write a b).read a = b :=
  readCells_writeCells_same m.cells 0 a b h

/-- A write leaves every other byte alone. -/
@[simp] theorem Memory.read_write_ne (m : Memory) (a c : Nat) (b : Byte) (h : c ≠ a) :
    (m.write a b).read c = m.read c :=
  readCells_writeCells_ne m.cells a c b h

/-- A write keeps the canonical form. -/
theorem Memory.write_wf (m : Memory) (a : Nat) (b : Byte) (h : m.wf = true) : (m.write a b).wf = true :=
  writeCells_wf m.cells 0 a b h (Nat.zero_le a)

theorem Memory.empty_wf : (Memory.mk []).wf = true := rfl

theorem mem_writeCells : ∀ (l : List Host.Cell) (a : Nat) (b : Byte) (c : Host.Cell),
    c ∈ writeCells l a b → c = (a, b) ∨ c ∈ l
  | [], a, b, c => by
    simp only [writeCells]
    split <;> simp_all
  | (a', b') :: rest, a, b, c => by
    have ih := mem_writeCells rest a b c
    simp only [writeCells]
    split
    · split <;> simp_all
    · split
      · split <;> simp_all
        tauto
      · simp only [List.mem_cons]
        rintro (h | h)
        · exact .inr (.inl h)
        · rcases ih h with h | h
          · exact .inl h
          · exact .inr (.inr h)

/-- A write below `n` keeps every cell below `n`. -/
theorem Memory.write_below (m : Memory) (a n : Nat) (b : Byte) (h : m.below n = true) (ha : a < n) :
    (m.write a b).below n = true := by
  simp only [Memory.below, List.all_eq_true, decide_eq_true_eq] at h ⊢
  intro c hc
  rcases mem_writeCells m.cells a b c hc with rfl | hc
  · exact ha
  · exact h c hc

/-- Two canonical stores that read alike everywhere are the same store. -/
theorem cells_ext : ∀ (l l' : List Host.Cell) (lo lo' : Nat), cellsWf lo l = true → cellsWf lo' l' = true →
    (∀ a, readCells l a = readCells l' a) → l = l'
  | [], [], _, _, _, _, _ => rfl
  | [], (a, b) :: rest, _, lo', _, h', he => by
    simp only [cellsWf, Bool.and_eq_true, decide_eq_true_eq] at h'
    have := he a
    simp only [readCells, if_true] at this
    exact absurd this.symm h'.1.2
  | (a, b) :: rest, [], lo, _, h, _, he => by
    simp only [cellsWf, Bool.and_eq_true, decide_eq_true_eq] at h
    have := he a
    simp only [readCells, if_true] at this
    exact absurd this h.1.2
  | (a, b) :: rest, (a', b') :: rest', lo, lo', h, h', he => by
    have h2 := h
    have h2' := h'
    simp only [cellsWf, Bool.and_eq_true, decide_eq_true_eq] at h2 h2'
    have haa : a = a' := by
      rcases Nat.lt_trichotomy a a' with hlt | heq | hgt
      · have e := he a
        have hne : a ≠ a' := by omega
        simp only [readCells, if_true, hne, if_false] at e
        rw [readCells_of_lt rest' (a' + 1) a h2'.2 (by omega)] at e
        exact absurd e h2.1.2
      · exact heq
      · have e := he a'
        have hne : a' ≠ a := by omega
        simp only [readCells, if_true, hne, if_false] at e
        rw [readCells_of_lt rest (a + 1) a' h2.2 (by omega)] at e
        exact absurd e.symm h2'.1.2
    subst haa
    have hb : b = b' := by simpa [readCells] using he a
    subst hb
    rw [cells_ext rest rest' (a + 1) (a + 1) h2.2 h2'.2]
    intro c
    by_cases hc : c = a
    · subst hc
      rw [readCells_of_lt rest (c + 1) c h2.2 (by omega), readCells_of_lt rest' (c + 1) c h2'.2 (by omega)]
    · simpa [readCells, hc] using he c

/-- Equal memories are equal data. -/
theorem Memory.ext_read (m m' : Memory) (h : m.wf = true) (h' : m'.wf = true)
    (he : ∀ a, m.read a = m'.read a) : m = m' := by
  cases m
  cases m'
  exact congrArg Memory.mk (cells_ext _ _ 0 0 h h' he)

/-! ### Runs of bytes -/

@[simp] theorem Memory.readRun_zero (m : Memory) (a : Nat) : m.readRun a 0 = [] := rfl

@[simp] theorem Memory.readRun_length (m : Memory) : ∀ n a, (m.readRun a n).length = n
  | 0, _ => rfl
  | n + 1, a => by simp [Memory.readRun, Memory.readRun_length m n (a + 1)]

/-- One more byte at the end of a run. -/
theorem Memory.readRun_snoc (m : Memory) : ∀ n a, m.readRun a (n + 1) = m.readRun a n ++ [m.read (a + n)]
  | 0, a => rfl
  | n + 1, a => by
    have ih := Memory.readRun_snoc m n (a + 1)
    rw [Memory.readRun, ih, Memory.readRun]
    simp [Nat.add_assoc, Nat.add_comm 1 n]

/-- A write outside a run leaves it alone. -/
theorem Memory.readRun_write (m : Memory) (c : Nat) (b : Byte) : ∀ n a, a + n ≤ c →
    (m.write c b).readRun a n = m.readRun a n
  | 0, _, _ => rfl
  | n + 1, a, h => by
    simp only [Memory.readRun]
    rw [Memory.readRun_write m c b n (a + 1) (by omega), Memory.read_write_ne m c a b (by omega)]

end Sys2Proof.Machine
end

