-- ==== Sys2Proof/Laws/Ops.lean ====
section
/-! SUPPORT. One lemma for each shared operation that says once what it can do. -/

namespace Sys2Proof.Machine

/-! ### Sequencing and selection -/

@[simp] theorem andThen_next (s : State) (f : State → Result) : andThen (.next s) f = f s := rfl

@[simp] theorem andThen_fault (e : Fault) (f : State → Result) : andThen (.fault e) f = .fault e := rfl

@[simp] theorem andThen_refused (e : Refusal) (f : State → Result) :
    andThen (.refused e) f = .refused e := rfl

/-- A sequence goes on only where both parts do. -/
theorem andThen_eq_next {r : Result} {f : State → Result} {t : State} :
    andThen r f = .next t ↔ ∃ s, r = .next s ∧ f s = .next t := by
  cases r <;> simp

/-- Sequencing is associative. -/
theorem andThen_assoc (r : Result) (f g : State → Result) :
    andThen (andThen r f) g = andThen r fun s => andThen (f s) g := by
  cases r <;> rfl

@[simp] theorem orDispatched_true (own dispatched : Result) : orDispatched true own dispatched = own := rfl

@[simp] theorem orDispatched_false (own dispatched : Result) :
    orDispatched false own dispatched = dispatched := rfl

/-- A row is the dispatched step as soon as its own effect is that step where the row is selected. -/
theorem orDispatched_eq {c : Bool} {own dispatched : Result} (h : c = true → own = dispatched) :
    orDispatched c own dispatched = dispatched := by
  cases c
  · rfl
  · exact h rfl

/-! ### The held unit -/

/-- Within the capacity the held unit is the run of `rx_len` bytes. -/
theorem State.heldUnit_eq {s : State} (h : s.rxLen ≤ s.cfg.rxBufBytes) :
    s.heldUnit = some (s.rxBuf.readRun 0 s.rxLen) := by
  simp [State.heldUnit, h]

/-- The held unit has `rx_len` bytes. -/
theorem State.heldUnit_length {s : State} {u : List Byte} (h : s.heldUnit = some u) :
    u.length = s.rxLen := by
  simp only [State.heldUnit] at h
  split at h
  · cases h; simp
  · cases h

/-- Within the capacity a held unit has an outcome. -/
theorem State.heldOutcome_eq {s : State} (h : s.rxLen ≤ s.cfg.rxBufBytes) :
    s.heldOutcome = some (s.unitOutcome (s.rxBuf.readRun 0 s.rxLen)) := by
  simp [State.heldOutcome, State.heldUnit, h]

/-- Within the capacity the handling of the held unit goes on. -/
theorem handleHeldUnit_eq {s : State} (h : s.rxLen ≤ s.cfg.rxBufBytes) (ovf : Bool) :
    handleHeldUnit ovf s = .next (handleUnit (s.rxBuf.readRun 0 s.rxLen) ovf s) := by
  simp [handleHeldUnit, State.heldUnit, h]

/-! ### The codec -/

/-- A frame is decoded from exactly the units of 5 bytes or more. -/
theorem decodeFrame_isSome (u : List Byte) : (decodeFrame u).isSome = decide (headerBytes ≤ u.length) := by
  match u with
  | [] | [_] | [_, _] | [_, _, _] | [_, _, _, _] => rfl
  | _ :: _ :: _ :: _ :: _ :: _ => simp [decodeFrame, headerBytes]

/-- What a decoded frame holds. -/
theorem decodeFrame_eq_some {u : List Byte} {f : Frame} : decodeFrame u = some f ↔
    u = f.source :: f.destination :: f.sequenceNumber :: f.headerChecksum :: f.payloadChecksum :: f.payload
      ∧ f.isAcknowledgment = f.payload.isEmpty := by
  match u with
  | [] | [_] | [_, _] | [_, _, _] | [_, _, _, _] => simp [decodeFrame]
  | a :: b :: c :: d :: e :: rest =>
    obtain ⟨s, t, n, p, hc, pc, ack⟩ := f
    simp only [decodeFrame, Option.some.injEq, Frame.mk.injEq, List.cons.injEq]
    constructor
    · rintro ⟨rfl, rfl, rfl, rfl, rfl, rfl, rfl⟩; simp
    · rintro ⟨⟨rfl, rfl, rfl, rfl, rfl, rfl⟩, rfl⟩; simp

/-- A decoded frame's unit is its header and its payload. -/
theorem decodeFrame_length {u : List Byte} {f : Frame} (h : decodeFrame u = some f) :
    u.length = headerBytes + f.payload.length := by
  rw [(decodeFrame_eq_some.mp h).1]
  simp [headerBytes]
  omega

/-- The four conditions of `verify`. -/
theorem verify_iff {f : Frame} {d n : Byte} : verify f d n = true ↔
    f.destination = d ∧ f.sequenceNumber = n ∧ headerSum f = f.headerChecksum ∧
      checksum f.payload = f.payloadChecksum := by
  simp [verify, and_assoc]

/-- A candidate fails nothing exactly where `verify` holds. -/
theorem candidateFailure_eq_none {f : Frame} {d n : Byte} :
    candidateFailure f d n = none ↔ verify f d n = true := by
  rw [verify_iff]
  unfold candidateFailure
  split_ifs <;> simp_all

/-- `stuff` distributes over concatenation. -/
theorem stuff_append : ∀ a b : List Byte, stuff (a ++ b) = stuff a ++ stuff b
  | [], _ => rfl
  | x :: a, b => by simp [stuff, stuff_append a b]

/-! ### The predicates the rules test -/

@[simp] theorem full_iff {α : Type} (c : Config) (q : List α) : full c q = true ↔ c.queueCap ≤ q.length := by
  simp [full]

@[simp] theorem empty_iff {α : Type} (q : List α) : empty q = true ↔ q = [] := by simp [empty]

@[simp] theorem isHigh_iff (c : Config) (v : Int) : isHigh c v = true ↔ c.thHigh < v := by simp [isHigh]

@[simp] theorem isLow_iff (c : Config) (v : Int) : isLow c v = true ↔ v < c.thLow := by simp [isLow]

theorem State.isDataByte_iff (s : State) (b : Byte) :
    s.isDataByte b = true ↔ s.rxEsc = true ∨ b ≠ escapeByte ∧ b ≠ sentinelByte := by
  simp [State.isDataByte]

/-- TXP's row conditions name one state of TXP. -/
theorem State.txIn_iff (s : State) (st : TxState) : s.txIn st = true ↔ s.shutdown = false ∧ s.txState = st := by
  simp [State.txIn]

/-- RXP's row conditions name one state of RXP. -/
theorem State.rxIn_iff (s : State) (st : RxState) : s.rxIn st = true ↔ s.shutdown = false ∧ s.rxState = st := by
  simp [State.rxIn]

theorem State.timerExpires_iff (s : State) :
    s.timerExpires = true ↔ s.cfg.ackTimeoutTicks ≤ s.ackTimer + 1 :=
  decide_eq_true_iff

theorem State.timerExpires_eq_false (s : State) :
    s.timerExpires = false ↔ s.ackTimer + 1 < s.cfg.ackTimeoutTicks := by
  rw [← Bool.not_eq_true, State.timerExpires_iff]
  omega

/-- Below the width of the retry counter the count does not wrap (R37). -/
theorem State.retryNext_eq {s : State} (h : s.retry + 1 < 2 ^ s.cfg.retryBits) : s.retryNext = s.retry + 1 :=
  Nat.mod_eq_of_lt h

theorem State.retriesLeft_iff (s : State) : s.retriesLeft = true ↔ s.retryNext ≤ s.cfg.maxAttempts := by
  simp [State.retriesLeft]

theorem State.wireDone_iff {s : State} {f : Frame} (h : s.cur = some f) :
    s.wireDone = true ↔ s.txWidx = (wire f).length := by
  simp [State.wireDone, h]

theorem State.outstanding_iff (s : State) :
    s.outstanding = true ↔ (s.txState = .sending ∨ s.txState = .awaitingAck) ∧ s.curIsAck = false := by
  simp [State.outstanding]

theorem State.deaf_eq_false (s : State) :
    s.deaf = false ↔ s.shutdown = false ∧ s.rxState ≠ .deliver ∧ s.rxState ≠ .halted := by
  simp [State.deaf, and_assoc]

/-- What a legal configuration satisfies (R10). -/
theorem Config.legal_facts {c : Config} (h : c.legal = true) :
    1 ≤ c.tick ∧ 2 ≤ c.pulseTicks ∧ 1 ≤ c.dwellTicks ∧ c.dwellTicks ≤ c.guardTicks ∧
      c.sampleOffset < c.pulseTicks ∧ 1 ≤ c.queueCap ∧ 1 ≤ c.ackTimeoutTicks ∧
      c.maxAttempts + 1 < 2 ^ c.retryBits ∧ c.vLow < c.thLow ∧ c.thLow ≤ c.vNeutral ∧
      c.vNeutral ≤ c.thHigh ∧ c.thHigh < c.vHigh := by
  simp only [Config.legal, decide_eq_true_eq] at h
  grind

/-! ### The outcome of a unit -/

/-- The unit is the acknowledgment only while a data frame is outstanding. -/
theorem State.ackMatches_outstanding {s : State} {u : List Byte} (h : s.ackMatches u = true) :
    s.outstanding = true := by
  simp only [State.ackMatches, Bool.and_eq_true] at h
  exact h.1.2

/-- What an accepted unit is. -/
theorem State.unitOutcome_accept {s : State} {u : List Byte} {f : Frame}
    (h : s.unitOutcome u = .accept f) :
    decodeFrame u = some f ∧ s.ackMatches u = false ∧ verify f s.cfg.myId s.expected = true := by
  unfold State.unitOutcome at h
  split at h
  · cases h
  · rename_i g hg
    split at h
    · cases h
    · rename_i hack
      split at h
      · rename_i hc
        cases h
        exact ⟨hg, by simpa using hack, candidateFailure_eq_none.mp hc⟩
      · split at h <;> cases h

/-- What a matched unit is. -/
theorem State.unitOutcome_ackMatch {s : State} {u : List Byte} (h : s.unitOutcome u = .ackMatch) :
    s.ackMatches u = true := by
  unfold State.unitOutcome at h
  split at h
  · cases h
  · split at h
    · assumption
    · split at h
      · cases h
      · split at h <;> cases h

end Sys2Proof.Machine
end

