-- ==== Sys2Proof/Laws/PerInstr.lean ====
section
/-! SUPPORT. Statements about every instruction, made per constructor. `DecodeEncode`: the decoder reads back
what the encoder wrote, in every condition that selects the row (R125). -/

namespace Sys2Proof.Laws

/-! ### Fields of appended bits -/

theorem header_fields (s t n h p : Byte) :
    (s ++ t ++ n ++ h ++ p).extractLsb' 32 8 = s ∧ (s ++ t ++ n ++ h ++ p).extractLsb' 24 8 = t ∧
    (s ++ t ++ n ++ h ++ p).extractLsb' 16 8 = n ∧ (s ++ t ++ n ++ h ++ p).extractLsb' 8 8 = h ∧
    (s ++ t ++ n ++ h ++ p).extractLsb' 0 8 = p := by
  refine ⟨?_, ?_, ?_, ?_, ?_⟩ <;> apply BitVec.eq_of_getLsbD_eq <;> intro i hi <;>
    simp [hi] <;> grind

theorem pair_fields (a b : Byte) : (a ++ b).extractLsb' 8 8 = a ∧ (a ++ b).extractLsb' 0 8 = b := by
  refine ⟨?_, ?_⟩ <;> apply BitVec.eq_of_getLsbD_eq <;> intro i hi <;>
    simp [hi] <;> grind

theorem slot_fields (b : Byte) :
    ((1 : BitVec 2) ++ b).extractLsb' 8 2 = 1 ∧ ((1 : BitVec 2) ++ b).extractLsb' 0 8 = b := by
  refine ⟨?_, ?_⟩ <;> apply BitVec.eq_of_getLsbD_eq <;> intro i hi <;>
    simp [hi] <;> grind

/-- What `DecodeEncode` says of `i`. -/
def DecodeEncode.Statement (i : Instr) : Prop :=
  ∀ (cfg : Config) (c : Cond) (code : Code), i.WellFormed cfg = true → c.selects i = true →
    Sys2Proof.encode i = some code → Sys2Proof.decode c code = .ok i

theorem DecodeEncode.slot (b : Byte) : DecodeEncode.Statement (.slot b) := by
  intro cfg c code _ _ he
  obtain rfl := Option.some.inj he
  simp only [Sys2Proof.decode, decodeSlot, slot_fields, if_true]

theorem DecodeEncode.lvlNeutral : DecodeEncode.Statement .lvlNeutral := by
  intro cfg c code _ _ he
  obtain rfl := Option.some.inj he
  rfl

theorem DecodeEncode.lvlHigh : DecodeEncode.Statement .lvlHigh := by
  intro cfg c code _ _ he
  obtain rfl := Option.some.inj he
  rfl

theorem DecodeEncode.lvlLow : DecodeEncode.Statement .lvlLow := by
  intro cfg c code _ _ he
  obtain rfl := Option.some.inj he
  rfl

theorem DecodeEncode.sentinel : DecodeEncode.Statement .sentinel := by
  intro cfg c code _ hs he
  obtain rfl := Option.some.inj he
  simp only [Cond.selects, Bool.not_eq_true'] at hs
  simp [Sys2Proof.decode, decodeWbyte, hs, escapeByte, sentinelByte]

theorem DecodeEncode.escape : DecodeEncode.Statement .escape := by
  intro cfg c code _ hs he
  obtain rfl := Option.some.inj he
  simp only [Cond.selects, Bool.not_eq_true'] at hs
  simp [Sys2Proof.decode, decodeWbyte, hs, escapeByte, sentinelByte]

theorem DecodeEncode.literal (b : Byte) : DecodeEncode.Statement (.literal b) := by
  intro cfg c code _ hs he
  obtain rfl := Option.some.inj he
  simp only [Cond.selects, Bool.or_eq_true, Bool.and_eq_true, decide_eq_true_eq] at hs
  rcases hs with hs | hs <;> simp [Sys2Proof.decode, decodeWbyte, hs]

theorem DecodeEncode.escSentinel : DecodeEncode.Statement .escSentinel := by
  intro cfg c code _ _ he
  obtain rfl := Option.some.inj he
  rfl

theorem DecodeEncode.escEscape : DecodeEncode.Statement .escEscape := by
  intro cfg c code _ _ he
  obtain rfl := Option.some.inj he
  rfl

theorem DecodeEncode.escAny (b : Byte) : DecodeEncode.Statement (.escAny b) := by
  intro cfg c code _ _ he
  obtain rfl := Option.some.inj he
  simp only [Sys2Proof.decode, decodePairRx, pair_fields, if_true]

theorem DecodeEncode.data (s t n h p : Byte) (payload : List Byte) : DecodeEncode.Statement (.data s t n h p payload) := by
  intro cfg c code _ hs he
  obtain rfl := Option.some.inj he
  simp only [Cond.selects, Bool.not_eq_true'] at hs
  simp [Sys2Proof.decode, decodeHdr, header_fields, hs]

theorem DecodeEncode.ack (s t n h p : Byte) : DecodeEncode.Statement (.ack s t n h p) := by
  intro cfg c code _ hs he
  obtain rfl := Option.some.inj he
  simp only [Cond.selects, Bool.not_eq_true'] at hs
  simp [Sys2Proof.decode, decodeHdr, header_fields, hs]

theorem DecodeEncode.send (dst : Byte) (payload : List Byte) : DecodeEncode.Statement (.send dst payload) := by
  intro cfg c code _ _ he
  obtain rfl := Option.some.inj he
  rfl

theorem DecodeEncode.recv : DecodeEncode.Statement .recv := by
  intro cfg c code _ _ he
  obtain rfl := Option.some.inj he
  rfl

theorem DecodeEncode.shutdown : DecodeEncode.Statement .shutdown := by
  intro cfg c code _ _ he
  obtain rfl := Option.some.inj he
  rfl

theorem DecodeEncode.reset : DecodeEncode.Statement .reset := by
  intro cfg c code _ _ he
  obtain rfl := Option.some.inj he
  rfl

theorem DecodeEncode.ok (call : HostCall) : DecodeEncode.Statement (.ok call) := by
  intro cfg c code _ _ he
  obtain rfl := Option.some.inj he
  cases call <;> rfl

theorem DecodeEncode.wouldBlock (call : HostCall) : DecodeEncode.Statement (.wouldBlock call) := by
  intro cfg c code _ _ he
  obtain rfl := Option.some.inj he
  cases call <;> rfl

theorem DecodeEncode.cancelled (call : HostCall) : DecodeEncode.Statement (.cancelled call) := by
  intro cfg c code _ _ he
  obtain rfl := Option.some.inj he
  cases call <;> rfl

theorem DecodeEncode.tooLong : DecodeEncode.Statement .tooLong := by
  intro cfg c code _ _ he
  obtain rfl := Option.some.inj he
  rfl

theorem DecodeEncode.txstIdle : DecodeEncode.Statement .txstIdle := by
  intro cfg c code _ _ he
  obtain rfl := Option.some.inj he
  rfl

theorem DecodeEncode.txstSending : DecodeEncode.Statement .txstSending := by
  intro cfg c code _ _ he
  obtain rfl := Option.some.inj he
  rfl

theorem DecodeEncode.txstAwaitingAck : DecodeEncode.Statement .txstAwaitingAck := by
  intro cfg c code _ _ he
  obtain rfl := Option.some.inj he
  rfl

theorem DecodeEncode.txstFailed : DecodeEncode.Statement .txstFailed := by
  intro cfg c code _ _ he
  obtain rfl := Option.some.inj he
  rfl

theorem DecodeEncode.txstHalted : DecodeEncode.Statement .txstHalted := by
  intro cfg c code _ _ he
  obtain rfl := Option.some.inj he
  rfl

theorem DecodeEncode.rxstHunt : DecodeEncode.Statement .rxstHunt := by
  intro cfg c code _ _ he
  obtain rfl := Option.some.inj he
  rfl

theorem DecodeEncode.rxstData : DecodeEncode.Statement .rxstData := by
  intro cfg c code _ _ he
  obtain rfl := Option.some.inj he
  rfl

theorem DecodeEncode.rxstDeliver : DecodeEncode.Statement .rxstDeliver := by
  intro cfg c code _ _ he
  obtain rfl := Option.some.inj he
  rfl

theorem DecodeEncode.rxstHalted : DecodeEncode.Statement .rxstHalted := by
  intro cfg c code _ _ he
  obtain rfl := Option.some.inj he
  rfl

theorem DecodeEncode.dcNone : DecodeEncode.Statement .dcNone := by
  intro cfg c code _ _ he
  obtain rfl := Option.some.inj he
  rfl

theorem DecodeEncode.dcOverflow : DecodeEncode.Statement .dcOverflow := by
  intro cfg c code _ _ he
  obtain rfl := Option.some.inj he
  rfl

theorem DecodeEncode.dcUndersized : DecodeEncode.Statement .dcUndersized := by
  intro cfg c code _ _ he
  obtain rfl := Option.some.inj he
  rfl

theorem DecodeEncode.dcDestinationMismatch : DecodeEncode.Statement .dcDestinationMismatch := by
  intro cfg c code _ _ he
  obtain rfl := Option.some.inj he
  rfl

theorem DecodeEncode.dcSequenceMismatch : DecodeEncode.Statement .dcSequenceMismatch := by
  intro cfg c code _ _ he
  obtain rfl := Option.some.inj he
  rfl

theorem DecodeEncode.dcHeaderChecksum : DecodeEncode.Statement .dcHeaderChecksum := by
  intro cfg c code _ _ he
  obtain rfl := Option.some.inj he
  rfl

theorem DecodeEncode.dcPayloadChecksum : DecodeEncode.Statement .dcPayloadChecksum := by
  intro cfg c code _ _ he
  obtain rfl := Option.some.inj he
  rfl

theorem DecodeEncode.dcDuplicate : DecodeEncode.Statement .dcDuplicate := by
  intro cfg c code _ _ he
  obtain rfl := Option.some.inj he
  rfl

theorem DecodeEncode.checksum (buf : List Byte) : DecodeEncode.Statement (.checksum buf) := by
  intro cfg c code _ _ he
  simp [Sys2Proof.encode] at he

theorem DecodeEncode.encode (f : Frame) : DecodeEncode.Statement (.encode f) := by
  intro cfg c code _ _ he
  simp [Sys2Proof.encode] at he

theorem DecodeEncode.decode (u : List Byte) : DecodeEncode.Statement (.decode u) := by
  intro cfg c code _ _ he
  simp [Sys2Proof.encode] at he

theorem DecodeEncode.verify (f : Frame) (expDst expSeq : Byte) : DecodeEncode.Statement (.verify f expDst expSeq) := by
  intro cfg c code _ _ he
  simp [Sys2Proof.encode] at he

theorem DecodeEncode.finalize (d : SendDesc) (n : Byte) : DecodeEncode.Statement (.finalize d n) := by
  intro cfg c code _ _ he
  simp [Sys2Proof.encode] at he

theorem DecodeEncode.ackbuild (p : PendingAck) : DecodeEncode.Statement (.ackbuild p) := by
  intro cfg c code _ _ he
  simp [Sys2Proof.encode] at he

theorem DecodeEncode.stuff (buf : List Byte) : DecodeEncode.Statement (.stuff buf) := by
  intro cfg c code _ _ he
  simp [Sys2Proof.encode] at he

theorem DecodeEncode.wire (f : Frame) : DecodeEncode.Statement (.wire f) := by
  intro cfg c code _ _ he
  simp [Sys2Proof.encode] at he

theorem DecodeEncode.txHalted (x : Bool) : DecodeEncode.Statement (.txHalted x) := by
  intro cfg c code _ _ he
  obtain rfl := Option.some.inj he
  cases x <;> rfl

theorem DecodeEncode.txHalt (st : TxState) : DecodeEncode.Statement (.txHalt st) := by
  intro cfg c code hw _ he
  obtain rfl := Option.some.inj he
  cases st
  all_goals first
    | rfl
    | simp [Instr.WellFormed] at hw

theorem DecodeEncode.txIdleAck : DecodeEncode.Statement .txIdleAck := by
  intro cfg c code _ hs he
  obtain rfl := Option.some.inj he
  simp only [Cond.selects, Bool.and_eq_true, Bool.not_eq_true'] at hs
  simp [Sys2Proof.decode, decodeTxstep, TxState.code, TxState.ofCode, hs]

theorem DecodeEncode.txIdleData : DecodeEncode.Statement .txIdleData := by
  intro cfg c code _ hs he
  obtain rfl := Option.some.inj he
  simp only [Cond.selects, Bool.and_eq_true, Bool.not_eq_true'] at hs
  simp [Sys2Proof.decode, decodeTxstep, TxState.code, TxState.ofCode, hs]

theorem DecodeEncode.txIdleWait : DecodeEncode.Statement .txIdleWait := by
  intro cfg c code _ hs he
  obtain rfl := Option.some.inj he
  simp only [Cond.selects, Bool.and_eq_true, Bool.not_eq_true'] at hs
  simp [Sys2Proof.decode, decodeTxstep, TxState.code, TxState.ofCode, hs]

theorem DecodeEncode.txseq : DecodeEncode.Statement .txseq := by
  intro cfg c code _ hs he
  obtain rfl := Option.some.inj he
  simp only [Cond.selects, Bool.and_eq_true, Bool.not_eq_true'] at hs
  simp [Sys2Proof.decode, decodeTxstep, TxState.code, TxState.ofCode, hs]

theorem DecodeEncode.txSent : DecodeEncode.Statement .txSent := by
  intro cfg c code _ hs he
  obtain rfl := Option.some.inj he
  simp only [Cond.selects, Bool.and_eq_true, Bool.not_eq_true'] at hs
  simp [Sys2Proof.decode, decodeTxstep, TxState.code, TxState.ofCode, hs]

theorem DecodeEncode.txAcked : DecodeEncode.Statement .txAcked := by
  intro cfg c code _ hs he
  obtain rfl := Option.some.inj he
  simp only [Cond.selects, Bool.and_eq_true, Bool.not_eq_true'] at hs
  simp [Sys2Proof.decode, decodeTxstep, TxState.code, TxState.ofCode, hs]

theorem DecodeEncode.txWait : DecodeEncode.Statement .txWait := by
  intro cfg c code _ hs he
  obtain rfl := Option.some.inj he
  simp only [Cond.selects, Bool.and_eq_true, Bool.not_eq_true'] at hs
  simp [Sys2Proof.decode, decodeTxstep, TxState.code, TxState.ofCode, hs]

theorem DecodeEncode.txRetransmit : DecodeEncode.Statement .txRetransmit := by
  intro cfg c code _ hs he
  obtain rfl := Option.some.inj he
  simp only [Cond.selects, Bool.and_eq_true, Bool.not_eq_true'] at hs
  simp [Sys2Proof.decode, decodeTxstep, TxState.code, TxState.ofCode, hs]

theorem DecodeEncode.txLimit : DecodeEncode.Statement .txLimit := by
  intro cfg c code _ hs he
  obtain rfl := Option.some.inj he
  simp only [Cond.selects, Bool.and_eq_true, Bool.not_eq_true'] at hs
  simp [Sys2Proof.decode, decodeTxstep, TxState.code, TxState.ofCode, hs]

theorem DecodeEncode.txFailed : DecodeEncode.Statement .txFailed := by
  intro cfg c code _ _ he
  obtain rfl := Option.some.inj he
  rfl

theorem DecodeEncode.rxHalted (x : Bool) : DecodeEncode.Statement (.rxHalted x) := by
  intro cfg c code _ _ he
  obtain rfl := Option.some.inj he
  cases x <;> rfl

theorem DecodeEncode.rxHalt (st : RxState) : DecodeEncode.Statement (.rxHalt st) := by
  intro cfg c code hw _ he
  obtain rfl := Option.some.inj he
  cases st
  all_goals first
    | rfl
    | simp [Instr.WellFormed] at hw

theorem DecodeEncode.rxDeliver : DecodeEncode.Statement .rxDeliver := by
  intro cfg c code _ _ he
  obtain rfl := Option.some.inj he
  rfl

theorem DecodeEncode.rxhunt : DecodeEncode.Statement .rxhunt := by
  intro cfg c code _ _ he
  obtain rfl := Option.some.inj he
  rfl

theorem DecodeEncode.rxdata : DecodeEncode.Statement .rxdata := by
  intro cfg c code _ _ he
  obtain rfl := Option.some.inj he
  rfl

theorem DecodeEncode.unstuff (b : Byte) : DecodeEncode.Statement (.unstuff b) := by
  intro cfg c code _ _ he
  simp [Sys2Proof.encode] at he

theorem DecodeEncode.store (b : Byte) : DecodeEncode.Statement (.store b) := by
  intro cfg c code _ _ he
  simp [Sys2Proof.encode] at he

theorem DecodeEncode.unitend : DecodeEncode.Statement .unitend := by
  intro cfg c code _ _ he
  simp [Sys2Proof.encode] at he

theorem DecodeEncode.unit (ovf : Bool) : DecodeEncode.Statement (.unit ovf) := by
  intro cfg c code _ _ he
  simp [Sys2Proof.encode] at he

theorem DecodeEncode.rxOverflow : DecodeEncode.Statement .rxOverflow := by
  intro cfg c code _ _ he
  simp [Sys2Proof.encode] at he

theorem DecodeEncode.rxUndersized : DecodeEncode.Statement .rxUndersized := by
  intro cfg c code _ _ he
  simp [Sys2Proof.encode] at he

theorem DecodeEncode.rxAckmatch : DecodeEncode.Statement .rxAckmatch := by
  intro cfg c code _ _ he
  simp [Sys2Proof.encode] at he

theorem DecodeEncode.rxAccept : DecodeEncode.Statement .rxAccept := by
  intro cfg c code _ _ he
  simp [Sys2Proof.encode] at he

theorem DecodeEncode.rxInvalid : DecodeEncode.Statement .rxInvalid := by
  intro cfg c code _ _ he
  simp [Sys2Proof.encode] at he

theorem DecodeEncode.rxDuplicate : DecodeEncode.Statement .rxDuplicate := by
  intro cfg c code _ _ he
  simp [Sys2Proof.encode] at he

theorem DecodeEncode.deliveryfailed : DecodeEncode.Statement .deliveryfailed := by
  intro cfg c code _ _ he
  simp [Sys2Proof.encode] at he

end Sys2Proof.Laws
end

