-- ==== Sys2Proof/Tests/Slice0.lean ====
section
/-! SUPPORT. Tests on fixed values: ill-formed terms, words written out from 30_encoding.md, the vectors of
95_test_vectors.md one step each, and for every obligation with hypotheses a state that meets them. -/

namespace Sys2Proof.Tests

open Sys2Proof.Machine

/-! ### Helpers -/

/-- CFG-T of 95_test_vectors.md for the endpoint `me`. -/
def cfgT (me : Byte) : Config :=
  { Config.default with
    myId := me, pulseWidth := 4, guardTicks := 4, dwellTicks := 4, sampleOffset := 2, ackTimeout := 400 }

/-- CFG-T with small queues and a small buffer. -/
def cfgS (me : Byte) : Config := { cfgT me with queueCap := 1, maxPayload := 2 }

/-- Endpoint A of the vectors, just reset. -/
def a0 : State := State.resetWith (cfgT 1)

/-- Endpoint B of the vectors, just reset. -/
def b0 : State := State.resetWith (cfgT 2)

/-- The bytes `l` in storage, with their length. -/
def holding (l : List Byte) (s : State) : State :=
  { s with rxBuf := ((l.zipIdx).filter fun c => c.1 ≠ 0).map (fun c => (c.2, c.1)) |> Memory.mk, rxLen := l.length }

/-- `r` goes on, to a state of which `p` holds. -/
def goesTo (r : Result) (p : State → Bool) : Bool :=
  match r with
  | .next t => p t
  | _ => false

/-- DATA(01, 02, 01, "HELLO"), V-FC-1. -/
def hello : Frame := ⟨1, 2, 1, [0x48, 0x45, 0x4C, 0x4C, 0x4F], 0xFB, 0x8A, false⟩

/-- The unit of V-FC-1. -/
def helloUnit : List Byte := [1, 2, 1, 0xFB, 0x8A, 0x48, 0x45, 0x4C, 0x4C, 0x4F]

/-- ACK(02, 01, 01), V-FC-2. -/
def ackFrame : Frame := ⟨2, 1, 1, [], 0xFB, 0xFF, true⟩

/-- A sends `hello`, at the start of the transmission. -/
def aSending : State := { a0 with txState := .sending, cur := some hello, framesSent := 1 }

/-- A has sent the last wire byte of `hello`. -/
def aSent : State := { aSending with txWidx := 11, lineOut := .low }

/-- A waits for the acknowledgment of `hello`. -/
def aWaiting : State := { a0 with txState := .awaitingAck, cur := some hello, framesSent := 1 }

/-- A has given `hello` up. -/
def aFailed : State := { a0 with txState := .failed, cur := some hello, framesSent := 1, retry := 6 }

/-- B waits with V-FC-1 held and `inq` full. -/
def bDeliver : State :=
  holding helloUnit
    { b0 with
      cfg := { cfgT 2 with queueCap := 1 }
      rxState := .deliver, framesReceived := 1, inq := [⟨1, 2, 0, [], 0xFC, 0xFF, false⟩] }

/-- RXP of `s` in its `Data` state, one tick before it samples bit 0 of a byte whose other bits are the low
seven of `sh`. -/
def lastBit (sh : Byte) (v : Int) (s : State) : State :=
  { s with rxState := .data, rxBit := 7, rxCnt := 33, rxShift := sh, lineIn := v }

/-! ### Well-formedness refuses -/

theorem test_wf_data_too_long :
    (Instr.data 0 0 0 0 0 [1, 2, 3]).WellFormed (cfgS 1) = false := by decide
theorem test_wf_decode_short : (Instr.decode [1, 2, 3, 4]).WellFormed (cfgT 1) = false := by decide
theorem test_wf_encode_too_long :
    (Instr.encode { hello with payload := [1, 2, 3] }).WellFormed (cfgS 1) = false := by decide
theorem test_wf_encode_ack_with_payload :
    (Instr.encode { ackFrame with payload := [1] }).WellFormed (cfgT 1) = false := by decide
theorem test_wf_wire_ack_with_payload :
    (Instr.wire { ackFrame with payload := [1] }).WellFormed (cfgT 1) = false := by decide
theorem test_wf_verify_too_long :
    (Instr.verify { hello with payload := [1, 2, 3] } 2 1).WellFormed (cfgS 1) = false := by decide
theorem test_wf_finalize_too_long :
    (Instr.finalize ⟨2, [1, 2, 3]⟩ 1).WellFormed (cfgS 1) = false := by decide
theorem test_wf_txHalt_halted : (Instr.txHalt .halted).WellFormed (cfgT 1) = false := by decide
theorem test_wf_rxHalt_halted : (Instr.rxHalt .halted).WellFormed (cfgT 1) = false := by decide
theorem test_wf_accepts :
    (Instr.data 1 2 1 0xFB 0x8A [1, 2]).WellFormed (cfgS 1) = true ∧
    (Instr.send 2 [1, 2, 3]).WellFormed (cfgS 1) = true ∧ (Instr.txHalt .failed).WellFormed (cfgT 1) = true := by
  decide

/-! ### Words of 30_encoding.md -/

/-- R101, R103: `01dddddddd` and the three levels. -/
theorem test_decode_line :
    decode Cond.quiet (.slot 0b0110100101#10) = .ok (.slot 0xA5) ∧
    decode Cond.quiet (.lvl 0b00#2) = .ok .lvlNeutral ∧ decode Cond.quiet (.lvl 0b01#2) = .ok .lvlHigh ∧
    decode Cond.quiet (.lvl 0b10#2) = .ok .lvlLow ∧ decode Cond.quiet (.lvl 0b11#2) = .error .levelReserved := by
  decide

/-- R104, R105, R119. -/
theorem test_decode_bytes :
    decode Cond.quiet (.wbyte 0x7E#8) = .ok .sentinel ∧ decode Cond.quiet (.wbyte 0x7D#8) = .ok .escape ∧
    decode Cond.quiet (.wbyte 0x41#8) = .ok (.literal 0x41) ∧
    decode { Cond.quiet with rxEsc := true } (.wbyte 0x7D#8) = .ok (.literal 0x7D) ∧
    decode Cond.quiet (.wpairTx 0x7D7E#16) = .ok .escSentinel ∧
    decode Cond.quiet (.wpairTx 0x7D7D#16) = .ok .escEscape ∧
    decode Cond.quiet (.wpairTx 0x7D41#16) = .error .notPair ∧
    decode Cond.quiet (.wpairRx 0x7D7E#16) = .ok (.escAny 0x7E) := by
  decide

/-- R106 to R108: the five header bytes in transmission order. -/
theorem test_decode_units :
    decode Cond.quiet (.hdr 0x010201FB8A#40 [0x48, 0x45, 0x4C, 0x4C, 0x4F]) =
      .ok (.data 1 2 1 0xFB 0x8A [0x48, 0x45, 0x4C, 0x4C, 0x4F]) ∧
    decode { Cond.quiet with ackMatched := true } (.hdr 0x020101FBFF#40 []) = .ok (.ack 2 1 1 0xFB 0xFF) ∧
    decode Cond.quiet (.hdr 0x020101FBFF#40 []) = .ok (.data 2 1 1 0xFB 0xFF []) := by
  decide

/-- R111: bit 0 `SEND`, 1 `RECV`, 2 `SHUTDOWN`, 3 `RESET`; R269: the order of several. -/
theorem test_decode_requests :
    decode Cond.quiet (.hreq 0b0001#4 2 [7]) = .ok (.send 2 [7]) ∧
    decode Cond.quiet (.hreq 0b0010#4 2 [7]) = .ok .recv ∧
    decode Cond.quiet (.hreq 0b0100#4 2 [7]) = .ok .shutdown ∧
    decode Cond.quiet (.hreq 0b1000#4 2 [7]) = .ok .reset ∧
    decode Cond.quiet (.hreq 0b0111#4 2 [7]) = .ok .shutdown ∧
    decode Cond.quiet (.hreq 0b0000#4 2 [7]) = .error .noRequest := by
  decide

/-- R112. -/
theorem test_decode_answers :
    decode Cond.quiet (.hrsp .send 0b000#3) = .ok (.ok .send) ∧
    decode Cond.quiet (.hrsp .recv 0b001#3) = .ok (.wouldBlock .recv) ∧
    decode Cond.quiet (.hrsp .recv 0b010#3) = .ok (.cancelled .recv) ∧
    decode Cond.quiet (.hrsp .send 0b011#3) = .ok .tooLong ∧
    decode Cond.quiet (.hrsp .send 0b100#3) = .error .answerReserved := by
  decide

/-- R115, R116. -/
theorem test_decode_states :
    decode Cond.quiet (.txst 0b000#3) = .ok .txstIdle ∧ decode Cond.quiet (.txst 0b001#3) = .ok .txstSending ∧
    decode Cond.quiet (.txst 0b010#3) = .ok .txstAwaitingAck ∧
    decode Cond.quiet (.txst 0b011#3) = .ok .txstFailed ∧ decode Cond.quiet (.txst 0b100#3) = .ok .txstHalted ∧
    decode Cond.quiet (.txst 0b101#3) = .error .txStateReserved ∧
    decode Cond.quiet (.rxst 0b00#2) = .ok .rxstHunt ∧ decode Cond.quiet (.rxst 0b01#2) = .ok .rxstData ∧
    decode Cond.quiet (.rxst 0b10#2) = .ok .rxstDeliver ∧ decode Cond.quiet (.rxst 0b11#2) = .ok .rxstHalted := by
  decide

/-- R282. -/
theorem test_decode_causes :
    decode Cond.quiet (.dcause 0#3) = .ok .dcNone ∧ decode Cond.quiet (.dcause 1#3) = .ok .dcOverflow ∧
    decode Cond.quiet (.dcause 2#3) = .ok .dcUndersized ∧
    decode Cond.quiet (.dcause 3#3) = .ok .dcDestinationMismatch ∧
    decode Cond.quiet (.dcause 4#3) = .ok .dcSequenceMismatch ∧
    decode Cond.quiet (.dcause 5#3) = .ok .dcHeaderChecksum ∧
    decode Cond.quiet (.dcause 6#3) = .ok .dcPayloadChecksum ∧
    decode Cond.quiet (.dcause 7#3) = .ok .dcDuplicate := by
  decide

/-- R125, TXP's rows; R210 for the conditions. -/
theorem test_decode_txp :
    decode Cond.quiet (.txstep 0b0100#4) = .ok (.txHalted false) ∧
    decode Cond.quiet (.txstep 0b1100#4) = .ok (.txHalted true) ∧
    decode Cond.quiet (.txstep 0b1010#4) = .ok (.txHalt .awaitingAck) ∧
    decode { Cond.quiet with ackPending := true } (.txstep 0b0000#4) = .ok .txIdleAck ∧
    decode { Cond.quiet with outqEmpty := false } (.txstep 0b0000#4) = .ok .txIdleData ∧
    decode Cond.quiet (.txstep 0b0000#4) = .ok .txIdleWait ∧ decode Cond.quiet (.txstep 0b0001#4) = .ok .txseq ∧
    decode { Cond.quiet with wireDone := true } (.txstep 0b0001#4) = .ok .txSent ∧
    decode { Cond.quiet with ackFlag := true, timerExpires := true } (.txstep 0b0010#4) = .ok .txAcked ∧
    decode Cond.quiet (.txstep 0b0010#4) = .ok .txWait ∧
    decode { Cond.quiet with timerExpires := true } (.txstep 0b0010#4) = .ok .txRetransmit ∧
    decode { Cond.quiet with timerExpires := true, retriesLeft := false } (.txstep 0b0010#4) = .ok .txLimit ∧
    decode Cond.quiet (.txstep 0b0011#4) = .ok .txFailed := by
  decide

/-- R125, RXP's rows. -/
theorem test_decode_rxp :
    decode Cond.quiet (.rxstep 0b011#3) = .ok (.rxHalted false) ∧
    decode Cond.quiet (.rxstep 0b111#3) = .ok (.rxHalted true) ∧
    decode Cond.quiet (.rxstep 0b110#3) = .ok (.rxHalt .deliver) ∧
    decode Cond.quiet (.rxstep 0b010#3) = .ok .rxDeliver ∧ decode Cond.quiet (.rxstep 0b000#3) = .ok .rxhunt ∧
    decode Cond.quiet (.rxstep 0b001#3) = .ok .rxdata := by
  decide

/-! ### Pure functions: V-CS, V-FC, V-FR -/

theorem test_checksum :
    checksum [] = 0xFF ∧ checksum [0] = 0xFF ∧ checksum [0xFF] = 0 ∧ checksum [0xFF, 1] = 0xFE ∧
    checksum [0x80, 0x80, 0xFF] = 0xFE ∧ checksum [0x48, 0x45, 0x4C, 0x4C, 0x4F] = 0x8A ∧
    checksum [0x12, 0x34, 0x56, 0x78, 0x9A] = 0x50 := by
  decide

/-- V-CS-21: the accumulator wraps. -/
theorem test_checksum_wraps : checksum (List.replicate 258 0xFF) = 1 := by decide +kernel

/-- V-FC-1, V-FC-5, V-FC-8. -/
theorem test_finalize :
    finalize ⟨2, [0x48, 0x45, 0x4C, 0x4C, 0x4F]⟩ 1 1 = hello ∧
    encodeFrame (finalize ⟨2, [0x7E, 0, 0x7D, 0x7D, 0x41]⟩ 1 1) =
      [1, 2, 1, 0xFB, 0x45, 0x7E, 0, 0x7D, 0x7D, 0x41] := by
  decide
theorem test_encode_ack : encodeFrame (ackbuild ⟨0x7D, 0x7D⟩ 0x7D) = [0x7D, 0x7D, 0x7D, 0x87, 0xFF] := by decide
theorem test_ackbuild : ackbuild ⟨1, 1⟩ 2 = ackFrame := by decide
theorem test_decode_unit : decodeFrame helloUnit = some hello ∧ decodeFrame [2, 1, 1, 0xFB, 0xFF] = some ackFrame := by
  decide

/-- V-FC-10 to V-FC-13, V-FC-18. -/
theorem test_verify :
    verify hello 2 1 = true ∧ verify hello 3 1 = false ∧ verify hello 2 2 = false ∧
    verify { hello with source := 3 } 2 1 = false ∧ verify { hello with payloadChecksum := 0x8B } 2 1 = false ∧
    verify { hello with source := 2, destination := 1 } 1 1 = true := by
  decide

/-- V-FR-2, V-FR-5, V-FR-6. -/
theorem test_stuff :
    stuff [0, 0x41, 0x7C, 0x7F, 0xFF] = [0, 0x41, 0x7C, 0x7F, 0xFF] ∧
    stuff [0x7E, 0, 0x7D, 0x7D, 0x41] = [0x7D, 0x7E, 0, 0x7D, 0x7D, 0x7D, 0x7D, 0x41] ∧
    stuff [0x7D, 0x7E] = [0x7D, 0x7D, 0x7D, 0x7E] := by
  decide

/-- V-FC-6, V-FC-9. -/
theorem test_wire :
    wire (ackbuild ⟨0x40, 1⟩ 0x40) = [0x40, 0x40, 1, 0x7D, 0x7E, 0xFF, 0x7E] ∧
    wire (finalize ⟨0x7E, [0x7E]⟩ 0x7E 0x7E) = [0x7D, 0x7E, 0x7D, 0x7E, 0x7D, 0x7E, 0x84, 0x81, 0x7D, 0x7E, 0x7E] := by
  decide

theorem test_fn_rows :
    goesTo (exec (.checksum [0xFF, 1]) a0) (fun t => t.out.value == .byte 0xFE) = true ∧
    goesTo (exec (.encode hello) a0) (fun t => t.out.value == .bytes helloUnit) = true ∧
    goesTo (exec (.decode helloUnit) a0) (fun t => t.out.value == .frame hello) = true ∧
    goesTo (exec (.verify hello 2 1) a0) (fun t => t.out.value == .bool true) = true ∧
    goesTo (exec (.finalize ⟨2, [0x48, 0x45, 0x4C, 0x4C, 0x4F]⟩ 1) a0) (fun t => t.out.value == .frame hello) = true ∧
    goesTo (exec (.ackbuild ⟨1, 1⟩) b0) (fun t => t.out.value == .frame ackFrame) = true ∧
    goesTo (exec (.stuff [0x7D]) a0) (fun t => t.out.value == .bytes [0x7D, 0x7D]) = true ∧
    goesTo (exec (.wire ackFrame) a0) (fun t => t.out.value == .bytes [2, 1, 1, 0xFB, 0xFF, 0x7E]) = true ∧
    exec (.decode [1, 2, 3, 4]) a0 = .fault .shortUnit := by
  refine ⟨?_, ?_, ?_, ?_, ?_, ?_, ?_, ?_, rfl⟩ <;> decide

/-! ### Framer and unit rows: V-FR, V-RX -/

/-- V-FR-9, V-FR-10: an escape, then the byte whatever it is. -/
theorem test_unstuff :
    goesTo (receiveBytes [0x7D, 0x7E] b0) (fun t => t.heldUnit == some [0x7E] && !t.rxEsc) = true ∧
    goesTo (exec (.unstuff 0x7D) b0) (fun t => t.rxEsc && t.rxLen == 0) = true := by
  decide

/-- V-FR-13, V-FR-15. -/
theorem test_receive_stuffed :
    goesTo (receiveBytes [0x7D, 0x7D, 0x7D, 0x7E] b0) (fun t => t.heldUnit == some [0x7D, 0x7E]) = true ∧
    goesTo (receiveBytes [1, 2, 1, 0xFB, 0x45, 0x7D, 0x7E, 0, 0x7D, 0x7D, 0x7D, 0x7D, 0x41] b0)
      (fun t => t.heldUnit == some [1, 2, 1, 0xFB, 0x45, 0x7E, 0, 0x7D, 0x7D, 0x41]) = true := by
  decide

/-- V-FR-16, V-FR-17. -/
theorem test_store :
    goesTo (exec (.store 0x22) (holding [1, 2, 1, 0xFB, 0x99, 0x11] (State.resetWith (cfgS 2))))
      (fun t => t.rxLen == 7 && !t.rxOvf && t.rxBuf.read 6 == 0x22) = true ∧
    goesTo (exec (.store 0x33) (holding [1, 2, 1, 0xFB, 0x99, 0x11, 0x22] (State.resetWith (cfgS 2))))
      (fun t => t.rxLen == 7 && t.rxOvf) = true := by
  decide

/-- V-FR-8, V-FR-17: the unit ends, undersized; the unit ends, overflowed. -/
theorem test_unitend :
    goesTo (exec .unitend (holding [0x41] b0)) (fun t => t.out.cause == some .undersized && t.rxLen == 0) = true ∧
    goesTo (exec .unitend { holding [1, 2, 1, 0xFB, 0x99, 0x11, 0x22] (State.resetWith (cfgS 2)) with rxOvf := true })
      (fun t => t.out.cause == some .overflow && t.rxLen == 0 && !t.rxOvf) = true := by
  decide

theorem test_received_bytes :
    goesTo (exec (.literal 0x41) b0) (fun t => t.heldUnit == some [0x41]) = true ∧
    goesTo (exec (.literal 0x7E) { b0 with rxEsc := true }) (fun t => t.heldUnit == some [0x7E] && !t.rxEsc) = true ∧
    goesTo (exec .escape b0) (fun t => t.rxEsc) = true ∧
    goesTo (exec .escape { b0 with rxEsc := true }) (fun t => t.heldUnit == some [0x7D] && !t.rxEsc) = true ∧
    goesTo (exec .sentinel b0) (fun t => t.out.cause == some .undersized) = true ∧
    goesTo (exec .sentinel { b0 with rxEsc := true }) (fun t => t.heldUnit == some [0x7E] && !t.rxEsc) = true ∧
    goesTo (exec (.literal 0x7E) b0) (fun t => t.out.cause == some .undersized) = true ∧
    goesTo (exec (.escAny 0x41) b0) (fun t => t.heldUnit == some [0x41] && !t.rxEsc) = true ∧
    goesTo (exec (.escAny 0x7E) { b0 with rxEsc := true }) (fun t => t.out.cause == some .undersized) = true := by
  decide

/-- V-RX-1, V-RX-2, V-RX-12, V-RX-10. -/
theorem test_unit :
    goesTo (exec (.unit false) (holding helloUnit b0))
      (fun t => t.framesReceived == 1 && t.pendingAck == some ⟨1, 1⟩ && t.inq == [hello] && t.rxLen == 0) = true ∧
    goesTo (exec (.unit true) (holding helloUnit b0)) (fun t => t.out.cause == some .overflow && t.inq == []) = true := by
  decide
theorem test_undersized_overflow :
    goesTo (exec .rxUndersized (holding [1, 2] b0)) (fun t => t.out.cause == some .undersized) = true ∧
    goesTo (exec .rxOverflow (holding [1, 2] b0)) (fun t => t.out.cause == some .overflow && t.rxLen == 0) = true := by
  decide
theorem test_duplicate :
    goesTo (exec .rxDuplicate (holding helloUnit { b0 with framesReceived := 1 }))
      (fun t => t.out.cause == some .duplicate && t.pendingAck == none && t.inq == []) = true ∧
    goesTo (exec .rxDuplicate (holding helloUnit { b0 with cfg := { cfgT 2 with dupReack := true }, framesReceived := 1 }))
      (fun t => t.pendingAck == some ⟨1, 1⟩ && t.framesReceived == 1) = true := by
  decide

/-- V-RX-7, V-RX-10. -/
theorem test_invalid :
    goesTo (exec .rxInvalid (holding [1, 3, 1, 0xFA, 0x8A, 0x48, 0x45, 0x4C, 0x4C, 0x4F] b0))
      (fun t => t.out.cause == some .destinationMismatch && t.rxLen == 0) = true ∧
    goesTo (exec .rxInvalid (holding [1, 2, 1, 0xFB, 0x8A, 0x48, 0x45, 0x4D, 0x4C, 0x4F] b0))
      (fun t => t.out.cause == some .payloadChecksum && t.pendingAck == none) = true := by
  decide

/-- V-RX-14: the number wraps; V-RX-21: `inq` full. -/
theorem test_accept :
    goesTo (exec .rxAccept (holding [1, 2, 0, 0xFC, 0x44, 0xBB] { b0 with framesReceived := 0xFF }))
      (fun t => t.framesReceived == 0 && t.inq.length == 1) = true ∧
    goesTo (exec .rxAccept (holding helloUnit { bDeliver with rxState := .hunt, framesReceived := 0 }))
      (fun t => t.framesReceived == 1 && t.rxState == .deliver && t.rxLen == 10 && t.inq.length == 1) = true := by
  decide

/-- V-RX-15, V-RX-16 (from another endpoint), V-RX-19 (while sending). -/
theorem test_ackmatch :
    goesTo (exec .rxAckmatch (holding [3, 1, 1, 0xFA, 0xFF] aWaiting))
      (fun t => t.ackFlag && t.rxLen == 0 && t.framesReceived == 0 && t.inq == []) = true ∧
    goesTo (exec .rxAckmatch (holding [2, 1, 1, 0xFB, 0xFF] aSending)) (fun t => t.ackFlag) = true := by
  decide

theorem test_whole_units :
    goesTo (exec (.data 1 2 1 0xFB 0x8A [0x48, 0x45, 0x4C, 0x4C, 0x4F]) b0)
      (fun t => t.inq == [hello] && t.framesReceived == 1) = true ∧
    goesTo (exec (.ack 2 1 1 0xFB 0xFF) aWaiting) (fun t => t.ackFlag) = true ∧
    goesTo (exec (.ack 2 1 1 0xFB 0xFF) { a0 with rxEsc := true })
      (fun t => !t.ackFlag && t.framesReceived == 1 && t.inq.length == 1 && t.rxEsc) = true ∧
    goesTo (exec (.data 2 1 1 0xFB 0xFF []) aWaiting) (fun t => t.ackFlag && t.inq == []) = true := by
  decide

/-- V-HI-10 and R247: delivered as soon as there is room, not before. -/
theorem test_deliver :
    goesTo (exec .rxDeliver { bDeliver with inq := [] })
      (fun t => t.inq == [hello] && t.rxState == .hunt && t.rxLen == 0) = true ∧
    goesTo (exec .rxDeliver bDeliver) (fun t => t.rxState == .deliver && t.rxLen == 10 && t.inq.length == 1) = true := by
  decide

/-! ### Line: V-LT -/

theorem test_levels :
    goesTo (exec .lvlNeutral aSent) (fun t => t.lineOut == .neutral) = true ∧
    goesTo (exec .lvlHigh a0) (fun t => t.lineOut == .high) = true ∧
    goesTo (exec .lvlLow a0) (fun t => t.lineOut == .low) = true := by
  decide

/-- R182: the guard's fourth tick; the last tick of bit 0. -/
theorem test_slot :
    goesTo (exec (.slot 0xA5) { aSending with txCnt := 3 })
      (fun t => t.lineOut == .low && t.txPhase == .start && t.txCnt == 0) = true ∧
    goesTo (exec (.slot 0xA5) { aSending with txPhase := .bit, txBit := 7, txCnt := 3 })
      (fun t => t.lineOut == .high && t.txPhase == .guard && t.txWidx == 1 && t.txBit == 0) = true := by
  decide

/-- V-LT-3's wire byte `01`: bit 7 is LOW; a missing frame is a fault, and so is a cursor past the wire bytes. -/
theorem test_txseq :
    goesTo (exec .txseq { aSending with txPhase := .bit })
      (fun t => t.lineOut == .low && t.txCnt == 1 && t.txState == .sending) = true ∧
    exec .txseq { aSending with cur := none } = .fault .noFrame ∧
    exec .txseq { aSending with txWidx := 12 } = .fault .wireRange :=
  ⟨by decide, rfl, rfl⟩

/-- V-LT-5. -/
theorem test_slotWave :
    slotWave (cfgT 1) 0xA5 =
      [.low, .low, .low, .low, .high, .high, .high, .high, .high, .high, .high, .high, .low, .low, .low, .low,
       .high, .high, .high, .high, .low, .low, .low, .low, .low, .low, .low, .low, .high, .high, .high, .high,
       .low, .low, .low, .low, .high, .high, .high, .high] := by
  decide

/-- V-LT-11, V-LT-12, V-LT-15: after four low samples, after three, after four and a neutral one. -/
theorem test_rxhunt :
    goesTo (exec .rxhunt { b0 with rxLowCnt := 4, lineIn := 2 }) (fun t => t.rxState == .data && t.rxCnt == 0) = true ∧
    goesTo (exec .rxhunt { b0 with rxLowCnt := 3, lineIn := 2 }) (fun t => t.rxState == .hunt && t.rxLowCnt == 0) = true ∧
    goesTo (exec .rxhunt { b0 with rxLowCnt := 4, lineIn := 0 }) (fun t => t.rxState == .hunt && t.rxLowCnt == 0) = true ∧
    goesTo (exec .rxhunt { b0 with rxLowCnt := 4, lineIn := -2 }) (fun t => t.rxLowCnt == 4) = true := by
  decide

/-- V-LT-10: the samples at ticks 19 and 39. -/
theorem test_rxdata :
    goesTo (exec .rxdata { b0 with rxState := .data, rxCnt := 13, rxBit := 2, rxShift := 2, lineIn := 2 })
      (fun t => t.rxCnt == 14 && t.rxBit == 3 && t.rxShift == 5) = true ∧
    goesTo (exec .rxdata (lastBit 0x52 2 b0))
      (fun t => t.rxState == .hunt && t.rxShift == 0xA5 && t.heldUnit == some [0xA5] && t.rxCnt == 34) = true := by
  decide

theorem test_esc_rows :
    goesTo (exec .escSentinel a0) (fun t => t.out.value == .bytes [0x7D, 0x7E]) = true ∧
    goesTo (exec .escEscape a0) (fun t => t.out.value == .bytes [0x7D, 0x7D]) = true := by
  decide

/-! ### Transmit path: V-TX -/

/-- V-TX-1. -/
theorem test_txIdleAck :
    goesTo (exec .txIdleAck { a0 with pendingAck := some ⟨2, 7⟩, outq := [⟨2, [0x41]⟩], framesSent := 3 })
      (fun t => t.cur == some ⟨1, 2, 7, [], 0xF5, 0xFF, true⟩ && t.curIsAck && t.pendingAck == none
        && t.txState == .sending && t.outq.length == 1 && t.framesSent == 3) = true := by
  decide

/-- V-TX-3. -/
theorem test_txIdleData :
    goesTo (exec .txIdleData { a0 with outq := [⟨2, [0x41]⟩], framesSent := 0xFF })
      (fun t => t.cur == some ⟨1, 2, 0, [0x41], 0xFC, 0xBE, false⟩ && t.outq == [] && t.framesSent == 0
        && t.txState == .sending) = true ∧
    exec .txIdleData { a0 with outq := [⟨2, [0x41]⟩], pendingAck := some ⟨2, 7⟩ } =
      txpStep { a0 with outq := [⟨2, [0x41]⟩], pendingAck := some ⟨2, 7⟩ } :=
  ⟨by decide, rfl⟩

/-- V-TX-4. -/
theorem test_txIdleWait : exec .txIdleWait a0 = .next a0 := rfl

/-- V-TX-5, V-TX-6. -/
theorem test_txSent :
    goesTo (exec .txSent { aSent with ackTimer := 400 })
      (fun t => t.lineOut == .neutral && t.ackTimer == 0 && t.txState == .awaitingAck && t.cur == some hello) = true ∧
    goesTo (exec .txSent { aSent with curIsAck := true })
      (fun t => t.lineOut == .neutral && t.cur == none && !t.curIsAck && t.txState == .idle) = true := by
  decide

/-- V-TX-7. -/
theorem test_txAcked :
    goesTo (exec .txAcked { aWaiting with ackFlag := true, ackTimer := 399, retry := 2 })
      (fun t => !t.ackFlag && t.retry == 0 && t.cur == none && t.txState == .idle && t.ackTimer == 399) = true := by
  decide

/-- V-TX-8. -/
theorem test_txWait : goesTo (exec .txWait { aWaiting with ackTimer := 398 }) (fun t => t.ackTimer == 399) = true := by
  decide

/-- V-TX-9, V-TX-10. -/
theorem test_txRetransmit :
    goesTo (exec .txRetransmit { aWaiting with ackTimer := 399, txWidx := 11 })
      (fun t => t.ackTimer == 400 && t.retry == 1 && t.txWidx == 0 && t.txState == .sending && t.cur == some hello) = true ∧
    goesTo (exec .txRetransmit { aWaiting with ackTimer := 399, retry := 4 }) (fun t => t.retry == 5) = true := by
  decide

/-- V-TX-11, V-TX-12. -/
theorem test_txLimit :
    goesTo (exec .txLimit { aWaiting with ackTimer := 399, retry := 5 })
      (fun t => t.retry == 6 && t.txState == .failed && t.cur == some hello) = true ∧
    goesTo (exec .txLimit { aWaiting with cfg := { cfgT 1 with maxAttempts := 0 }, ackTimer := 399 })
      (fun t => t.retry == 1 && t.txState == .failed) = true := by
  decide

/-- V-TX-13. -/
theorem test_txFailed :
    goesTo (exec .txFailed aFailed)
      (fun t => t.out.evFail && t.out.evFailDst == 2 && t.out.evFailSeq == 1 && t.failSticky && t.cur == none
        && t.retry == 0 && t.txState == .idle && t.framesSent == 1) = true ∧
    goesTo (exec .deliveryfailed aFailed) (fun t => t.out.evFailDst == 2 && !t.failSticky && t.cur == some hello) = true := by
  decide

/-- V-TX-14, V-TX-15. -/
theorem test_txHalt :
    goesTo (exec (.txHalt .failed) { aFailed with shutdown := true })
      (fun t => t.txState == .halted && t.lineOut == .neutral && !t.failSticky && !t.out.evFail && t.cur == some hello) = true ∧
    exec (.txHalted true) { a0 with txState := .halted, shutdown := true } =
      .next { a0 with txState := .halted, shutdown := true } :=
  ⟨by decide, rfl⟩

/-- V-RX-22. -/
theorem test_rxHalt :
    goesTo (exec (.rxHalt .deliver) { bDeliver with shutdown := true })
      (fun t => t.rxState == .halted && t.rxLen == 10 && t.inq.length == 1) = true ∧
    exec (.rxHalted true) { b0 with rxState := .halted, shutdown := true } =
      .next { b0 with rxState := .halted, shutdown := true } :=
  ⟨by decide, rfl⟩

/-- The state-code rows do the path's step. -/
theorem test_state_rows :
    exec .txstIdle a0 = .next a0 ∧
    goesTo (exec .txstSending aSending) (fun t => t.lineOut == .low && t.txCnt == 1) = true ∧
    goesTo (exec .txstAwaitingAck aWaiting) (fun t => t.ackTimer == 1) = true ∧
    goesTo (exec .txstFailed aFailed) (fun t => t.failSticky) = true ∧
    exec .txstHalted { a0 with txState := .halted } = .next { a0 with txState := .halted } ∧
    goesTo (exec .rxstHunt { b0 with lineIn := -2 }) (fun t => t.rxLowCnt == 1) = true ∧
    goesTo (exec .rxstData { b0 with rxState := .data, rxCnt := 2 }) (fun t => t.rxCnt == 3) = true ∧
    goesTo (exec .rxstDeliver { bDeliver with inq := [] }) (fun t => t.rxState == .hunt) = true ∧
    exec .rxstHalted { b0 with rxState := .halted } = .next { b0 with rxState := .halted } := by
  refine ⟨rfl, ?_, ?_, ?_, rfl, ?_, ?_, ?_, rfl⟩ <;> decide

/-! ### Host port: V-HI -/

/-- V-HI-1, V-HI-4. -/
theorem test_send :
    goesTo (exec (.send 2 []) a0) (fun t => t.out.sendRsp == some .ok && t.outq == [⟨2, []⟩]) = true ∧
    goesTo (exec (.send 2 [1, 2, 3]) { State.resetWith (cfgS 1) with shutdown := true })
      (fun t => t.out.sendRsp == some .cancelled && t.outq == []) = true := by
  decide

/-- V-HI-2, V-HI-3. -/
theorem test_send_refused :
    goesTo (exec (.send 2 [1, 2, 3]) (State.resetWith (cfgS 1))) (fun t => t.out.sendRsp == some .tooLong) = true ∧
    goesTo (exec (.send 2 [1, 2]) { State.resetWith (cfgS 1) with outq := [⟨2, []⟩] })
      (fun t => t.out.sendRsp == some .wouldBlock && t.outq.length == 1) = true := by
  decide

/-- V-HI-5, V-HI-6. -/
theorem test_recv :
    goesTo (exec .recv b0) (fun t => t.out.recvRsp == some .wouldBlock) = true ∧
    goesTo (exec .recv { b0 with inq := [hello, ⟨1, 2, 2, [], 0xFA, 0xFF, false⟩] })
      (fun t => t.out.recvRsp == some .ok && t.out.recvd == ⟨1, 2, 1, 0xFB, 0x8A, 5, [0x48, 0x45, 0x4C, 0x4C, 0x4F]⟩
        && t.inq.length == 1) = true := by
  decide

/-- V-HI-7, V-HI-8. -/
theorem test_shutdown_reset :
    goesTo (exec .shutdown aSending) (fun t => t.shutdown && t.txState == .sending) = true ∧
    goesTo (exec .reset { aFailed with failSticky := true, shutdown := true })
      (fun t => t.txState == .idle && t.cur == none && !t.failSticky && !t.shutdown && t.framesSent == 0
        && t.cfg == cfgT 1) = true := by
  decide

theorem test_answers :
    goesTo (exec (.ok .recv) a0) (fun t => t.out.recvRsp == some .ok) = true ∧
    goesTo (exec (.wouldBlock .send) a0) (fun t => t.out.sendRsp == some .wouldBlock) = true ∧
    goesTo (exec (.cancelled .recv) a0) (fun t => t.out.recvRsp == some .cancelled) = true ∧
    goesTo (exec .tooLong a0) (fun t => t.out.sendRsp == some .tooLong) = true := by
  decide

theorem test_causes :
    goesTo (exec .dcNone a0) (fun t => t.out.cause == some .acted) = true ∧
    goesTo (exec .dcOverflow a0) (fun t => t.out.cause == some .overflow) = true ∧
    goesTo (exec .dcUndersized a0) (fun t => t.out.cause == some .undersized) = true ∧
    goesTo (exec .dcDestinationMismatch a0) (fun t => t.out.cause == some .destinationMismatch) = true ∧
    goesTo (exec .dcSequenceMismatch a0) (fun t => t.out.cause == some .sequenceMismatch) = true ∧
    goesTo (exec .dcHeaderChecksum a0) (fun t => t.out.cause == some .headerChecksum) = true ∧
    goesTo (exec .dcPayloadChecksum a0) (fun t => t.out.cause == some .payloadChecksum) = true ∧
    goesTo (exec .dcDuplicate a0) (fun t => t.out.cause == some .duplicate) = true := by
  decide

/-! ### The step -/

/-- A placed code runs as the first step after reset: a unit and a request. -/
theorem test_placed_code_runs :
    step (State.reset.withFetchWord 40 0x8AFB010201) = exec (.data 0x8A 0xFB 1 2 1 []) State.reset ∧
    step (State.reset.withFetchWord 8 1) = exec (.send 0 []) { State.reset with turn := .host } :=
  ⟨rfl, rfl⟩

/-- A tick's first step fixes the inputs and latches the status (R80, R267). -/
theorem test_tick_begins :
    goesTo (step { aWaiting with lineFeed := [2, 0], hostFeed := [⟨0b0101, 9, [7]⟩] })
      (fun t => t.lineIn == 2 && t.lineFeed == [0] && t.hReq == 0b0101 && t.hDst == 9 && t.hPayload == [7]
        && t.turn == .host && t.status.txState == 2 && t.status.framesSent == 1) = true := by
  decide

/-- A configuration outside R10 is refused (IU6). -/
theorem test_illegal_configuration :
    State.boot { cfgT 1 with queueCap := 0 } = .refused .illegalConfig ∧
    step (State.resetWith { cfgT 1 with dwellTicks := 5 }) = .refused .illegalConfig :=
  ⟨rfl, rfl⟩

/-! ### The invariant as a test -/

/-- `OwnFrame` as a test. -/
def ownFrame (c : Config) (f : Frame) : Bool :=
  decide (f.source = c.myId) && decide (headerSum f = f.headerChecksum)
    && decide (checksum f.payload = f.payloadChecksum) && decide (f.payload.length ≤ c.maxPayload)
    && (!f.isAcknowledgment || decide (f.payload = []))

/-- `InboundFrame` as a test. -/
def inboundFrame (c : Config) (f : Frame) : Bool :=
  decide (f.isAcknowledgment = false) && decide (f.destination = c.myId) && decide (headerSum f = f.headerChecksum)
    && decide (checksum f.payload = f.payloadChecksum) && decide (f.payload.length ≤ c.maxPayload)

/-- `CursorSound` as a test. -/
def cursorOk (s : State) (f : Frame) : Bool :=
  decide (s.txWidx ≤ (wire f).length)
    && (decide (s.txWidx ≠ (wire f).length) || (decide (s.txPhase = .guard) && decide (s.txCnt = 0)))
    && decide (s.txBit ≤ 7)
    && (if s.txPhase = .guard then decide (s.txCnt < s.cfg.guardTicks) else decide (s.txCnt < s.cfg.pulseTicks))

/-- What the invariant asks of `cur`. -/
def curOk (s : State) (f : Frame) : Bool :=
  decide (f.isAcknowledgment = s.curIsAck) && ownFrame s.cfg f
    && (s.curIsAck || decide (f.sequenceNumber = s.framesSent)) && (decide (s.txState ≠ .sending) || cursorOk s f)

/-- What the invariant asks of the unit held in `Deliver`. -/
def heldOk (s : State) : Bool :=
  match s.heldUnit with
  | some u =>
    match decodeFrame u with
    | some f => verify f s.cfg.myId s.framesReceived
    | none => false
  | none => false

/-- What the invariant asks of `cur` where there is none or one. -/
def curAll (s : State) : Bool :=
  match s.cur with
  | some f => curOk s f
  | none => true

/-- A test that implies `EndpointInv`. -/
def invOk (s : State) : Bool :=
  s.cfg.legal && s.opPort.isNone
    && (s.rxBuf.wf && s.rxBuf.below s.cfg.rxBufBytes && decide (s.rxLen ≤ s.cfg.rxBufBytes)
      && (!s.rxOvf || decide (s.rxLen = s.cfg.rxBufBytes)))
    && (decide (s.outq.length ≤ s.cfg.queueCap) && decide (s.inq.length ≤ s.cfg.queueCap)
      && s.outq.all (fun d => decide (d.payload.length ≤ s.cfg.maxPayload)) && s.inq.all (inboundFrame s.cfg))
    && (curAll s
      && (if s.txState = .idle then decide (s.cur = none) && !s.curIsAck && decide (s.retry = 0)
        else s.cur.isSome || decide (s.txState = .halted))
      && (!s.curIsAck || (decide (s.txState ≠ .awaitingAck) && decide (s.txState ≠ .failed)))
      && decide (s.retry ≤ s.cfg.maxAttempts + 1)
      && ((decide (s.txState ≠ .sending) && decide (s.txState ≠ .awaitingAck)) || decide (s.retry ≤ s.cfg.maxAttempts))
      && (!s.curIsAck || decide (s.retry = 0)) && decide (s.ackTimer ≤ s.cfg.ackTimeoutTicks)
      && (decide (s.txState ≠ .awaitingAck) || decide (s.ackTimer < s.cfg.ackTimeoutTicks))
      && (decide (s.txState = .sending) || decide (s.lineOut = .neutral))
      && (!s.ackFlag || s.outstanding || decide (s.txState = .halted)) && (decide (s.txState ≠ .halted) || s.shutdown))
    && (decide (s.rxLowCnt ≤ s.cfg.dwellTicks) && decide (s.rxBit ≤ 8)
      && (decide (s.rxState ≠ .data) || (decide (s.rxBit < 8) && decide (s.rxCnt < s.samplePoint)))
      && decide (s.rxCnt ≤ 8 * s.cfg.pulseTicks + s.cfg.sampleOffset)
      && (decide (s.rxState ≠ .deliver) || (heldOk s && !s.rxOvf)) && (decide (s.rxState ≠ .halted) || s.shutdown))

theorem ownFrame_sound {c : Config} {f : Frame} (h : ownFrame c f = true) : OwnFrame c f := by
  simp only [ownFrame, Bool.and_eq_true, decide_eq_true_eq, Bool.or_eq_true] at h
  exact ⟨h.1.1.1.1, h.1.1.1.2, h.1.1.2, h.1.2, fun e => by simpa [e] using h.2⟩

theorem inboundFrame_sound {c : Config} {f : Frame} (h : inboundFrame c f = true) : InboundFrame c f := by
  simp only [inboundFrame, Bool.and_eq_true, decide_eq_true_eq] at h
  exact ⟨h.1.1.1.1, h.1.1.1.2, h.1.1.2, h.1.2, h.2⟩

theorem cursorOk_sound {s : State} {f : Frame} (h : cursorOk s f = true) : CursorSound s f := by
  simp only [cursorOk, Bool.and_eq_true, decide_eq_true_eq, Bool.or_eq_true] at h
  obtain ⟨⟨⟨h1, h2⟩, h3⟩, h4⟩ := h
  refine ⟨h1, fun e => by simpa [e] using h2, h3, fun e => by simpa [e] using h4, fun e => by simpa [e] using h4⟩

theorem heldOk_sound {s : State} (h : heldOk s = true) :
    ∃ u f, s.heldUnit = some u ∧ decodeFrame u = some f ∧ verify f s.cfg.myId s.framesReceived = true := by
  unfold heldOk at h
  split at h
  · split at h
    · exact ⟨_, _, ‹_›, ‹_›, h⟩
    · cases h
  · cases h

theorem curAll_sound {s : State} {f : Frame} (h : curAll s = true) (hc : s.cur = some f) : curOk s f = true := by
  simpa [curAll, hc] using h

theorem invOk_sound {s : State} (h : invOk s = true) : EndpointInv s := by
  simp only [invOk, Bool.and_eq_true] at h
  obtain ⟨⟨⟨⟨⟨hl, ho⟩, ⟨⟨⟨hb1, hb2⟩, hb3⟩, hb4⟩⟩, ⟨⟨⟨hq1, hq2⟩, hq3⟩, hq4⟩⟩, ht⟩, hr⟩ := h
  obtain ⟨⟨⟨⟨⟨⟨⟨⟨⟨⟨t1, t2⟩, t3⟩, t4⟩, t5⟩, t6⟩, t7⟩, t8⟩, t9⟩, t10⟩, t11⟩ := ht
  obtain ⟨⟨⟨⟨⟨r1, r2⟩, r3⟩, r4⟩, r5⟩, r6⟩ := hr
  have hcur : ∀ f, s.cur = some f → f.isAcknowledgment = s.curIsAck ∧ OwnFrame s.cfg f ∧
      (s.curIsAck = false → f.sequenceNumber = s.framesSent) ∧ (s.txState = .sending → CursorSound s f) := by
    intro f hf
    have h := curAll_sound t1 hf
    simp only [curOk, Bool.and_eq_true, decide_eq_true_eq, Bool.or_eq_true] at h
    obtain ⟨⟨⟨h1, h2⟩, h3⟩, h4⟩ := h
    exact ⟨h1, ownFrame_sound h2, fun e => by simpa [e] using h3,
      fun e => by rcases h4 with h4 | h4; exact absurd e h4; exact cursorOk_sound h4⟩
  refine ⟨hl, by simpa using ho, ⟨hb1, hb2, by simpa using hb3, fun e => by simpa [e] using hb4⟩,
    ⟨by simpa using hq1, by simpa using hq2, by simpa using hq3,
      fun f hf => inboundFrame_sound (List.all_eq_true.mp hq4 f hf)⟩, ?_, ?_⟩
  · refine ⟨?_, ?_, ?_, fun f hf => (hcur f hf).1, fun f hf => (hcur f hf).2.1, fun f hf => (hcur f hf).2.2.1,
      fun f hs hf => (hcur f hf).2.2.2 hs, by simpa using t4, ?_, ?_, by simpa using t7, ?_, ?_, ?_, ?_⟩
    · rintro (e | e | e) <;> simpa [e] using t2
    · intro e
      simp [e] at t2
      exact ⟨t2.1.1, t2.1.2, t2.2⟩
    · rintro (e | e) <;> simpa [e] using t3
    · rintro (e | e) <;> simpa [e] using t5
    · intro e; simpa [e] using t6
    · intro e; simpa [e] using t8
    · intro e; simpa [e] using t9
    · intro e; simpa [e] using t10
    · intro e; simpa [e] using t11
  · refine ⟨by simpa using r1, by simpa using r2, ?_, by simpa using r4, ?_, ?_, ?_⟩
    · intro e; simpa [e] using r3
    · intro e
      simp [e] at r5
      exact heldOk_sound r5.1
    · intro e; simpa [e] using r6
    · intro e
      simp [e] at r5
      exact r5.2

theorem goesTo_next {r : Result} {p : State → Bool} (h : goesTo r p = true) : ∃ t, r = .next t ∧ p t = true := by
  unfold goesTo at h
  split at h
  · exact ⟨_, rfl, h⟩
  · cases h

/-! ### Witnesses: states and operands that meet the hypotheses of the obligations -/

theorem test_witness_DecodeEncodeAgree :
    ((Instr.txHalt .failed).WellFormed (cfgT 1) = true ∧ Cond.quiet.selects (.txHalt .failed) = true ∧
      encode (.txHalt .failed) = some (.txstep 0b1011#4)) ∧
    ((Instr.data 1 2 3 4 5 [6, 7]).WellFormed (cfgS 1) = true ∧ Cond.quiet.selects (.data 1 2 3 4 5 [6, 7]) = true ∧
      encode (.data 1 2 3 4 5 [6, 7]) = some (.hdr 0x0102030405#40 [6, 7])) ∧
    ((Instr.literal 0x7E).WellFormed (cfgT 1) = true ∧ { Cond.quiet with rxEsc := true }.selects (.literal 0x7E) = true ∧
      encode (.literal 0x7E) = some (.wbyte 0x7E)) := by
  decide

theorem test_witness_EncodeDecodeAgree :
    decode Cond.quiet (.txstep 0b0001#4) = .ok .txseq ∧ decode Cond.quiet (.hreq 0b0110#4 2 [7]) = .ok .shutdown := by
  decide

theorem test_witness_ReservedCodesRefused :
    4 ≤ (4#3).toNat ∧ 5 ≤ (5#3).toNat ∧ 5 ≤ (13#4).toNat % 8 ∧ (0x7D7F#16 ≠ 0x7D7E ∧ 0x7D7F#16 ≠ 0x7D7D) ∧
    (255#10).toNat / 256 ≠ 1 ∧ (512#10).toNat / 256 ≠ 1 := by
  decide

theorem test_witness_StepRunsDecoded :
    (a0.cfg.legal = true ∧ decodeTableWord 40 0x8AFB010201 = some (.data 0x8A 0xFB 1 2 1 [])) ∧
    (a0.opPort = none ∧ decode a0.cond (.hreq 3 9 [7]) = .ok (.send 9 [7])) ∧
    decode a0.cond (.rxstep (BitVec.ofBool a0.shutdown ++ a0.rxState.code)) = .ok .rxhunt ∧
    decode aWaiting.cond (.txstep (BitVec.ofBool aWaiting.shutdown ++ aWaiting.txState.code)) = .ok .txWait := by
  decide

theorem test_witness_TickIsLineHostRxpTxp : a0.cfg.legal = true ∧ a0.opPort = none ∧ a0.turn = .line := by decide

theorem test_witness_StepKeepsInvariant :
    EndpointInv { aWaiting with turn := .txp } ∧
    ∃ t, step { aWaiting with turn := .txp } = .next t ∧ (t.ackTimer == 1) = true :=
  ⟨invOk_sound (by decide), goesTo_next (by decide)⟩

theorem test_witness_ResetHasInvariant : (cfgT 1).legal = true ∧ (cfgS 2).legal = true := by decide

theorem test_witness_StepNeverStops : EndpointInv bDeliver ∧ EndpointInv { aSending with turn := .txp } :=
  ⟨invOk_sound (by decide), invOk_sound (by decide)⟩

theorem test_witness_SelectedRowIsPathStep :
    decode aSent.cond (.txstep (BitVec.ofBool aSent.shutdown ++ aSent.txState.code)) = .ok .txSent ∧
    decode aSent.cond (.txst aSent.txState.code) = .ok .txstSending ∧
    decode bDeliver.cond (.rxstep (BitVec.ofBool bDeliver.shutdown ++ bDeliver.rxState.code)) = .ok .rxDeliver ∧
    decode bDeliver.cond (.rxst bDeliver.rxState.code) = .ok .rxstDeliver ∧
    EndpointInv aSent ∧ EndpointInv bDeliver :=
  ⟨by decide, by decide, by decide, by decide, invOk_sound (by decide), invOk_sound (by decide)⟩

/-- One state with the invariant for each state code. -/
theorem test_witness_StateCodeRowsComplete :
    EndpointInv a0 ∧ EndpointInv aSending ∧ EndpointInv aWaiting ∧ EndpointInv aFailed ∧
    EndpointInv { a0 with txState := .halted, rxState := .halted, shutdown := true } ∧
    EndpointInv { b0 with rxState := .data } ∧ EndpointInv bDeliver :=
  ⟨invOk_sound (by decide), invOk_sound (by decide), invOk_sound (by decide), invOk_sound (by decide),
    invOk_sound (by decide), invOk_sound (by decide), invOk_sound (by decide)⟩

theorem test_witness_OwnershipTable :
    (∃ t, step { aWaiting with turn := .txp } = .next t ∧ true = true) ∧
    (∃ t, step { b0 with turn := .rxp } = .next t ∧ true = true) ∧
    (∃ t, step { a0 with turn := .host, hReq := 1 } = .next t ∧ true = true) ∧
    (∃ t, step a0 = .next t ∧ true = true) ∧ a0.opPort = none ∧ (1#4).getLsbD 3 = false :=
  ⟨goesTo_next (by decide), goesTo_next (by decide), goesTo_next (by decide), goesTo_next (by decide), rfl, rfl⟩

theorem test_witness_HeldFrameImmutable :
    EndpointInv { aSending with turn := .txp } ∧
    ∃ t, step { aSending with turn := .txp } = .next t ∧ (t.cur == some hello) = true :=
  ⟨invOk_sound (by decide), goesTo_next (by decide)⟩

/-- A halted endpoint with a failure reported, in each turn. -/
theorem test_witness_HaltedUntilReset : ∀ tu : Turn,
    EndpointInv { a0 with txState := .halted, rxState := .halted, shutdown := true, failSticky := true, turn := tu } ∧
    ∃ t, step { a0 with txState := .halted, rxState := .halted, shutdown := true, failSticky := true, turn := tu } =
      .next t ∧ true = true
  | .line | .host | .rxp | .txp => ⟨invOk_sound (by decide), goesTo_next (by decide)⟩

/-- The states of the transition table's rows, in its order. -/
def tableStates : List State :=
  [{ aFailed with shutdown := true }, { a0 with pendingAck := some ⟨2, 7⟩ }, { a0 with outq := [⟨2, [0x41]⟩] }, a0,
    aSending, { aSending with cur := some (ackbuild ⟨2, 7⟩ 1), curIsAck := true, txWidx := 6 }, aSent,
    { aWaiting with ackFlag := true, ackTimer := 399 }, { aWaiting with ackTimer := 398 },
    { aWaiting with ackTimer := 399, retry := 4 }, { aWaiting with ackTimer := 399, retry := 5 }, aFailed,
    { a0 with txState := .halted, shutdown := true }]

theorem test_witness_TransmitTransitionTable :
    ∀ s ∈ tableStates, EndpointInv { s with turn := .txp } ∧ ∃ t, step { s with turn := .txp } = .next t ∧ true = true := by
  have h : tableStates.all (fun s => invOk { s with turn := .txp } && goesTo (step { s with turn := .txp }) fun _ => true)
      = true := by decide
  intro s hs
  have := List.all_eq_true.mp h s hs
  rw [Bool.and_eq_true] at this
  exact ⟨invOk_sound this.1, goesTo_next this.2⟩

/-- A takes a descriptor; B accepts a unit. -/
theorem test_witness_NumbersAreConsecutive :
    (EndpointInv { a0 with outq := [⟨2, [0x41]⟩], turn := .txp } ∧
      ∃ t, step { a0 with outq := [⟨2, [0x41]⟩], turn := .txp } = .next t ∧ (t.framesSent == 1) = true) ∧
    (EndpointInv { lastBit 0x3F (-2) (holding helloUnit b0) with turn := .rxp } ∧
      ∃ t, step { lastBit 0x3F (-2) (holding helloUnit b0) with turn := .rxp } = .next t ∧
        (t.framesReceived == 1 && t.inq == [hello]) = true) ∧
    EndpointInv { bDeliver with inq := [], turn := .rxp } ∧
      ∃ t, step { bDeliver with inq := [], turn := .rxp } = .next t ∧
        (t.framesReceived == bDeliver.framesReceived && t.inq == [hello]) = true :=
  ⟨⟨invOk_sound (by decide), goesTo_next (by decide)⟩, ⟨invOk_sound (by decide), goesTo_next (by decide)⟩,
    invOk_sound (by decide), goesTo_next (by decide)⟩

/-- The last bit of the acknowledgment's sentinel arrives in the tick in which the timer would expire. -/
theorem test_witness_SignalWakesInSameTick :
    EndpointInv { lastBit 0x3F (-2) (holding [2, 1, 1, 0xFB, 0xFF] { aWaiting with ackTimer := 399 }) with turn := .rxp } ∧
    ∃ t, step { lastBit 0x3F (-2) (holding [2, 1, 1, 0xFB, 0xFF] { aWaiting with ackTimer := 399 }) with turn := .rxp } =
      .next t ∧ (t.ackFlag && t.txState == .awaitingAck) = true :=
  ⟨invOk_sound (by decide), goesTo_next (by decide)⟩

theorem test_witness_UnreadBytesUnobservable :
    SameToLength { b0 with rxBuf := ⟨[(0, 1), (3, 9)]⟩, rxLen := 1 } { b0 with rxBuf := ⟨[(0, 1), (1, 2)]⟩, rxLen := 1 } :=
  ⟨by decide, rfl, by
    intro a ha
    have : a = 0 := by simpa using ha
    subst this
    rfl⟩

/-- The storing rows go on below the capacity and at it; an operation that stores nothing goes on, and so does
one that stores elsewhere but not in this state. -/
theorem test_witness_MemoryFrame :
    mayStore .unitend b0 = false ∧ mayStore .rxhunt b0 = false ∧ mayStore .sentinel b0 = false ∧
    mayStore .sentinel { b0 with rxEsc := true } = true ∧ mayStore .rxdata (lastBit 0 2 b0) = true ∧
    (∃ t, exec .unitend b0 = .next t ∧ true = true) ∧ (∃ t, exec .rxhunt b0 = .next t ∧ true = true) ∧
    (∃ t, exec .reset aFailed = .next t ∧ true = true) ∧
    (∃ t, exec .sentinel { b0 with rxEsc := true } = .next t ∧ true = true) ∧
    (∃ t, exec .rxdata (lastBit 0 2 b0) = .next t ∧ true = true) ∧
    (∃ t, exec (.store 5) (holding [1, 2, 3, 4, 5, 6, 7] (State.resetWith (cfgS 2))) = .next t ∧ true = true) ∧
    (∃ t, exec (.escAny 5) b0 = .next t ∧ true = true) ∧ (∃ t, exec (.data 1 2 1 0 0 [9]) b0 = .next t ∧ true = true) ∧
    ∃ t, exec (.ack 2 1 1 0xFB 0xFF) aWaiting = .next t ∧ true = true :=
  ⟨by decide, by decide, by decide, by decide, by decide, goesTo_next (by decide), goesTo_next (by decide),
    goesTo_next (by decide), goesTo_next (by decide), goesTo_next (by decide), goesTo_next (by decide),
    goesTo_next (by decide), goesTo_next (by decide), goesTo_next (by decide)⟩

/-- Another state than `Failed`, and `Failed` under shutdown. -/
theorem test_witness_RowsDoTheirPathsStep :
    a0.txState ≠ .failed ∧ { aFailed with shutdown := true }.txState = .failed ∧
    { aFailed with shutdown := true }.shutdown = true := by
  decide

/-- The three clauses at a sum of 0, 255 and 256, and a permutation. -/
theorem test_witness_ChecksumLaws :
    (([] : List Byte).map BitVec.toNat).sum % 65536 = 0 ∧
    (0 < (([0xFF] : List Byte).map BitVec.toNat).sum % 65536 ∧ (([0xFF] : List Byte).map BitVec.toNat).sum % 65536 % 255 = 0) ∧
    (([0xFF, 1] : List Byte).map BitVec.toNat).sum % 65536 % 255 ≠ 0 ∧ ([1, 2] : List Byte).Perm [2, 1] :=
  ⟨by decide, by decide, by decide, .swap 2 1 []⟩

/-- The first bit of the header and the last of the payload. -/
theorem test_witness_SingleBitErrorsCaught :
    (headerSum hello = hello.headerChecksum ∧ checksum hello.payload = hello.payloadChecksum ∧
      hello.isAcknowledgment = false ∧ (encodeFrame hello).length = 10) ∧
    decodeFrame ((encodeFrame hello).modify 0 fun b => b ^^^ (1#8 <<< 7)) = some { hello with source := 0x81 } ∧
    decodeFrame ((encodeFrame hello).modify 9 fun b => b ^^^ (1#8 <<< 0)) =
      some { hello with payload := [0x48, 0x45, 0x4C, 0x4C, 0x4E] } := by
  decide

theorem test_witness_ValidFramesValidate :
    (headerSum hello = hello.headerChecksum ∧ checksum hello.payload = hello.payloadChecksum) ∧
    (headerSum ackFrame = ackFrame.headerChecksum ∧ checksum ackFrame.payload = ackFrame.payloadChecksum ∧
      ackFrame.payload = []) ∧ decodeFrame (encodeFrame ackFrame) = some ackFrame := by
  decide

theorem test_witness_PureFunctionRows : ([1, 2, 3, 4] : List Byte).length < 5 := by decide

/-- A sequence of exactly the capacity. -/
theorem test_witness_StuffingRoundTrip :
    (∀ b ∈ ([0, 0x7C, 0x7F] : List Byte), b ≠ 0x7E ∧ b ≠ 0x7D) ∧
    ((State.resetWith (cfgS 2)).rxBuf.wf = true ∧ (State.resetWith (cfgS 2)).rxEsc = false ∧
      (State.resetWith (cfgS 2)).rxOvf = false ∧ (State.resetWith (cfgS 2)).rxLen = 0 ∧
      ([0x7E, 0x7D, 1, 2, 3, 4, 0x7E] : List Byte).length = (State.resetWith (cfgS 2)).cfg.rxBufBytes ∧
      (encodeFrame { hello with payload := [1, 0x7E] }).length = (State.resetWith (cfgS 2)).cfg.rxBufBytes) := by
  decide

theorem test_witness_WireLengthBounds :
    ((0x7E : Byte) = 0x7E ∨ (0x7E : Byte) = 0x7D) ∧ ((0x7D : Byte) = 0x7E ∨ (0x7D : Byte) = 0x7D) ∧
    ({ hello with payload := List.replicate 1500 0x7E } : Frame).payload.length ≤ 1500 := by
  refine ⟨by decide, by decide, ?_⟩
  rw [List.length_replicate]

/-- Listening or not, escaped or not, below the capacity and at it. -/
theorem test_witness_ReceivedByteRows :
    bDeliver.deaf = true ∧ (b0.deaf = false ∧ b0.rxEsc = false ∧ b0.rxLen < b0.cfg.rxBufBytes) ∧
    ({ b0 with rxEsc := true }.deaf = false ∧ { b0 with rxEsc := true }.rxEsc = true) ∧
    ((holding [1, 2, 3, 4, 5, 6, 7] (State.resetWith (cfgS 2))).deaf = false ∧
      (holding [1, 2, 3, 4, 5, 6, 7] (State.resetWith (cfgS 2))).rxLen = (cfgS 2).rxBufBytes) := by
  decide

theorem test_witness_UnstuffClassifies :
    b0.rxLen ≤ b0.cfg.rxBufBytes ∧ b0.rxEsc = false ∧ { b0 with rxEsc := true }.rxEsc = true ∧
    (0x7F : Byte) ≠ 0x7D ∧ (0x7F : Byte) ≠ 0x7E := by
  decide

/-- The last free index, and the capacity. -/
theorem test_witness_StoreBounded :
    ((holding [1, 2, 3, 4, 5, 6] (State.resetWith (cfgS 2))).rxLen + 1 = (cfgS 2).rxBufBytes ∧
      (holding [1, 2, 3, 4, 5, 6] (State.resetWith (cfgS 2))).rxBuf.wf = true) ∧
    (holding [1, 2, 3, 4, 5, 6, 7] (State.resetWith (cfgS 2))).rxLen = (cfgS 2).rxBufBytes := by
  decide

theorem test_witness_UnitEndHandsOver : (holding helloUnit b0).rxLen ≤ (holding helloUnit b0).cfg.rxBufBytes := by decide

/-- A unit for each outcome. -/
theorem test_witness_UnitOutcomeTable :
    ((holding [1, 2, 3, 4] b0).heldUnit = some [1, 2, 3, 4] ∧ ([1, 2, 3, 4] : List Byte).length < 5) ∧
    ((holding [2, 1, 1, 0xFB, 0xFF] aWaiting).heldUnit = some [2, 1, 1, 0xFB, 0xFF] ∧
      (holding [2, 1, 1, 0xFB, 0xFF] aWaiting).ackMatches [2, 1, 1, 0xFB, 0xFF] = true) ∧
    ((holding helloUnit b0).heldUnit = some helloUnit ∧ decodeFrame helloUnit = some hello ∧
      (holding helloUnit b0).ackMatches helloUnit = false ∧ verify hello 2 (b0.framesReceived + 1) = true ∧
      b0.inq.length < b0.cfg.queueCap) ∧
    (verify hello 2 (0 + 1) = true ∧ bDeliver.cfg.queueCap ≤ bDeliver.inq.length) ∧
    verify hello 2 bDeliver.framesReceived = true ∧
    (verify { hello with destination := 3 } 2 1 = false ∧ verify { hello with destination := 3 } 2 0 = false) := by
  decide

theorem test_witness_AcknowledgmentSignals :
    (holding [3, 1, 1, 0xFA, 0xFF] aWaiting).heldUnit = some [3, 1, 1, 0xFA, 0xFF] ∧
    (holding [3, 1, 1, 0xFA, 0xFF] aWaiting).ackMatches [3, 1, 1, 0xFA, 0xFF] = true := by
  decide

theorem test_witness_OutcomeRowsFollowTests :
    (holding [1, 2, 3, 4, 5, 6, 7] (State.resetWith (cfgS 2))).rxLen ≤ (cfgS 2).rxBufBytes := by decide

theorem test_witness_MalformedUnitsDiscarded :
    (holding [1, 2, 3, 4] b0).rxLen < 5 ∧ (holding [1, 2, 3, 4] b0).rxLen ≤ b0.cfg.rxBufBytes := by decide

theorem test_witness_AcceptDelivers :
    (holding helloUnit b0).heldUnit = some helloUnit ∧ (holding helloUnit b0).ackMatches helloUnit = false ∧
    decodeFrame helloUnit = some hello ∧ hello.destination = b0.cfg.myId ∧
    hello.sequenceNumber = b0.framesReceived + 1 ∧
    checksum [hello.source, hello.destination, hello.sequenceNumber] = hello.headerChecksum ∧
    checksum hello.payload = hello.payloadChecksum := by
  decide

theorem test_witness_RejectedCandidates :
    ((holding helloUnit a0).heldUnit = some helloUnit ∧ (holding helloUnit a0).ackMatches helloUnit = false ∧
      verify hello a0.cfg.myId (a0.framesReceived + 1) = false ∧ verify hello a0.cfg.myId a0.framesReceived = false) ∧
    ((holding helloUnit { b0 with framesReceived := 1 }).heldUnit = some helloUnit ∧
      (holding helloUnit { b0 with framesReceived := 1 }).ackMatches helloUnit = false ∧ verify hello 2 1 = true) := by
  decide

theorem test_witness_DeliverWaitsForRoom :
    bDeliver.shutdown = false ∧ bDeliver.rxState = .deliver ∧ bDeliver.cfg.queueCap ≤ bDeliver.inq.length ∧
    ({ bDeliver with inq := [] }.inq.length < bDeliver.cfg.queueCap ∧
      { bDeliver with inq := [] }.heldUnit = some helloUnit ∧ decodeFrame helloUnit = some hello) := by
  decide

theorem test_witness_WholeUnitRows :
    bDeliver.deaf = true ∧ (b0.deaf = false ∧ b0.rxBuf.wf = true ∧ b0.ackMatches helloUnit = false ∧
      hello.payload.length ≤ b0.cfg.maxPayload ∧ hello.sequenceNumber = b0.framesReceived + 1 ∧
      (0xFB : Byte) = checksum [1, 2, 1] ∧ (0x8A : Byte) = checksum hello.payload ∧ b0.inq.length < b0.cfg.queueCap) ∧
    (aWaiting.deaf = false ∧ aWaiting.rxBuf.wf = true ∧ aWaiting.ackMatches [2, 1, 1, 0xFB, 0xFF] = true) := by
  decide

theorem test_witness_LevelRowsDrive : a0.cfg.legal = true := by decide

theorem test_witness_SequencerTick :
    aSending.txPhase = .guard ∧ { aSending with txPhase := .start }.txPhase = .start ∧
    { aSending with txPhase := .bit }.txPhase = .bit ∧
    (aSending.shutdown = false ∧ aSending.txState = .sending ∧ aSending.cur = some hello ∧ (wire hello)[0]? = some 1 ∧
      (wire hello)[10]? = some 0x7E) := by
  decide

theorem test_witness_TransmissionWaveform : aSending.cfg.legal = true ∧ AtFirstGuard aSending hello :=
  ⟨by decide, ⟨rfl, rfl, rfl, rfl, rfl, rfl, rfl⟩⟩

/-- Samples at both thresholds and past them, with and without the dwell; the first and the last sample point. -/
theorem test_witness_SamplerRules :
    b0.shutdown = false ∧ b0.rxState = .hunt ∧ (-2 : Int) < b0.cfg.thLow ∧
    (b0.cfg.thLow ≤ 2 ∧ b0.cfg.thHigh < 2 ∧ b0.cfg.dwellTicks ≤ { b0 with rxLowCnt := 4 }.rxLowCnt) ∧
    (b0.cfg.thLow ≤ -1 ∧ (-1 : Int) ≤ b0.cfg.thHigh) ∧ (b0.cfg.thLow ≤ 1 ∧ (1 : Int) ≤ b0.cfg.thHigh) ∧
    { b0 with rxLowCnt := 3 }.rxLowCnt < b0.cfg.dwellTicks ∧
    (4 + 1 ≠ (0 + 1) * b0.cfg.pulseTicks + b0.cfg.sampleOffset ∧ 5 + 1 = (0 + 1) * b0.cfg.pulseTicks + b0.cfg.sampleOffset) ∧
    (lastBit 0 2 b0).rxCnt + 1 = ((lastBit 0 2 b0).rxBit + 1) * b0.cfg.pulseTicks + b0.cfg.sampleOffset := by
  decide

theorem test_witness_ReceiverReadsSlot : b0.cfg.legal = true ∧ b0.shutdown = false ∧ b0.rxState = .hunt := by decide

theorem test_witness_TransmittedFrameIsDelivered :
    EndpointInv b0 ∧ b0.shutdown = false ∧ b0.rxState = .hunt ∧ b0.rxLen = 0 ∧ b0.rxEsc = false ∧
    b0.inq.length < b0.cfg.queueCap ∧ hello.isAcknowledgment = false ∧ hello.payload.length ≤ b0.cfg.maxPayload ∧
    hello.destination = b0.cfg.myId ∧ hello.sequenceNumber = b0.framesReceived + 1 ∧
    headerSum hello = hello.headerChecksum ∧ checksum hello.payload = hello.payloadChecksum ∧
    b0.ackMatches (encodeFrame hello) = false :=
  ⟨invOk_sound (by decide), by decide⟩

theorem test_witness_IdealLineResolves :
    (∀ x ∈ [Level.neutral, .neutral], x = .neutral) ∧ Level.low ∈ [Level.neutral, .low, .low] ∧
    (∀ x ∈ [Level.neutral, .low, .low], x = .neutral ∨ x = Level.low) ∧ (∀ q ∈ [a0, b0], q.lineOut = .neutral) := by
  decide

theorem test_witness_IdleTakesWork :
    (a0.shutdown = false ∧ a0.txState = .idle) ∧ { a0 with pendingAck := some ⟨2, 7⟩ }.pendingAck = some ⟨2, 7⟩ ∧
    ({ a0 with outq := [⟨2, [0x41]⟩] }.pendingAck = none ∧ { a0 with outq := [⟨2, [0x41]⟩] }.outq = [⟨2, [0x41]⟩]) := by
  decide

theorem test_witness_IdleWaitsForWork :
    (a0.shutdown = false ∧ a0.txState = .idle ∧ a0.pendingAck = none ∧ a0.outq = []) ∧
    { a0 with outq := [⟨2, [0x41]⟩] }.outq ≠ [] ∧ { a0 with pendingAck := some ⟨2, 7⟩ }.pendingAck ≠ none := by
  decide

theorem test_witness_TransmissionEnds :
    aSent.shutdown = false ∧ aSent.txState = .sending ∧ aSent.cur = some hello ∧ aSent.txWidx = (wire hello).length ∧
    aSent.curIsAck = false ∧ { aSent with curIsAck := true }.curIsAck = true := by
  decide

/-- The flag set; the timer below the limit; at it with a retry left, and with none left. -/
theorem test_witness_AwaitingRows :
    (aWaiting.shutdown = false ∧ aWaiting.txState = .awaitingAck ∧ aWaiting.ackFlag = false ∧
      { aWaiting with ackFlag := true }.ackFlag = true) ∧
    398 + 1 < aWaiting.cfg.ackTimeoutTicks ∧ aWaiting.cfg.ackTimeoutTicks ≤ 399 + 1 ∧
    4 + 1 ≤ aWaiting.cfg.maxAttempts ∧ aWaiting.cfg.maxAttempts < 5 + 1 ∧ 5 + 1 < 2 ^ aWaiting.cfg.retryBits := by
  decide

theorem test_witness_TimeoutIsExact :
    aWaiting.cfg.legal = true ∧ aWaiting.shutdown = false ∧ aWaiting.txState = .awaitingAck ∧
    aWaiting.ackFlag = false ∧ aWaiting.ackTimer = 0 ∧ aWaiting.retry ≤ aWaiting.cfg.maxAttempts ∧
    { aWaiting with retry := 5 }.retry = aWaiting.cfg.maxAttempts ∧ 399 < aWaiting.cfg.ackTimeoutTicks := by
  decide

theorem test_witness_AttemptsExhausted :
    aSending.cfg.legal = true ∧ AtFirstGuard aSending hello ∧ aSending.curIsAck = false ∧ aSending.ackFlag = false ∧
    aSending.retry = 0 ∧ 841 = (wire hello).length * aSending.cfg.byteTicks + 1 + aSending.cfg.ackTimeoutTicks ∧
    aSending.pendingAck = none ∧ { aSending with outq := [⟨2, [0x41]⟩] }.outq = [⟨2, [0x41]⟩] :=
  ⟨by decide, ⟨rfl, rfl, rfl, rfl, rfl, rfl, rfl⟩, by decide⟩

theorem test_witness_FailureReported :
    aFailed.shutdown = false ∧ aFailed.txState = .failed ∧ aFailed.cur = some hello := by decide

theorem test_witness_HaltRows :
    ({ aFailed with shutdown := true }.shutdown = true ∧ { aFailed with shutdown := true }.txState = .failed ∧
      TxState.failed ≠ .halted) ∧
    ({ bDeliver with shutdown := true }.rxState = .deliver ∧ RxState.deliver ≠ .halted) ∧
    { a0 with txState := .halted, rxState := .halted }.txState = .halted := by
  decide

/-- Payloads at the limit and past it; room for one descriptor, and none. -/
theorem test_witness_SendAnswers :
    { a0 with shutdown := true }.shutdown = true ∧ (a0.shutdown = false ∧ (cfgS 1).maxPayload < ([1, 2, 3] : List Byte).length) ∧
    (([1, 2] : List Byte).length ≤ (cfgS 1).maxPayload ∧ (cfgS 1).queueCap ≤ [(⟨2, []⟩ : SendDesc)].length) ∧
    (State.resetWith (cfgS 1)).outq.length < (cfgS 1).queueCap := by
  decide

theorem test_witness_RecvAnswers :
    { b0 with shutdown := true }.shutdown = true ∧ (b0.shutdown = false ∧ b0.inq = []) ∧
    { b0 with inq := [hello] }.inq = [hello] ∧ EndpointInv { b0 with inq := [hello] } :=
  ⟨by decide, by decide, by decide, invOk_sound (by decide)⟩

theorem test_witness_ShutdownHaltsBothPaths : aSending.txState ≠ .halted := by decide

theorem test_witness_RequestOrder :
    (a0.cfg.legal = true ∧ a0.opPort = none ∧ { a0 with turn := .host }.turn = .host) ∧ (0b1111#4).getLsbD 3 = true ∧
    ((0b0111#4).getLsbD 3 = false ∧ (0b0111#4).getLsbD 2 = true) ∧
    ((0b0011#4).getLsbD 3 = false ∧ (0b0011#4).getLsbD 2 = false ∧ (0b0011#4).getLsbD 0 = true) := by
  decide

theorem test_witness_StatusLatchedAtTickStart :
    (∃ t, step a0 = .next t ∧ true = true) ∧ ∃ t, step { a0 with turn := .txp } = .next t ∧ true = true :=
  ⟨goesTo_next (by decide), goesTo_next (by decide)⟩

end Sys2Proof.Tests
end

/-! PROOFS. The waveform of a transmission (obligation O42; R102, R103, R181, R182): runs of TXP compose, an
interval of the sequencer drives its level for its count of ticks, and slots and units are built from intervals. -/

namespace Sys2Proof.Machine

/-! ### Runs of TXP alone -/

theorem txRun_add (m n : Nat) (s : State) : txRun (m + n) s = andThen (txRun m s) (txRun n) := by
  induction m generalizing s with
  | zero => rw [Nat.zero_add]; rfl
  | succ m ih =>
    rw [Nat.succ_add, txRun, txRun, andThen_assoc]
    exact congrArg (andThen (txpStep s)) (funext ih)

theorem txWave_succ {s t : State} (n : Nat) (h : txpStep s = .next t) :
    txWave (n + 1) s = t.lineOut :: txWave n t := by
  simp [txWave, h]

theorem txWave_add {m : Nat} {s t : State} (n : Nat) (h : txRun m s = .next t) :
    txWave (m + n) s = txWave m s ++ txWave n t := by
  induction m generalizing s with
  | zero =>
    cases h
    rw [Nat.zero_add]; rfl
  | succ m ih =>
    obtain ⟨u, hu, hrest⟩ := andThen_eq_next.mp h
    rw [Nat.succ_add, txWave_succ _ hu, txWave_succ _ hu, ih hrest, List.cons_append]

/-- TXP alone goes from `s` to `t` and drives the levels `ls`, one a step. -/
structure Drives (s : State) (ls : List Level) (t : State) : Prop where
  run : txRun ls.length s = .next t
  wave : txWave ls.length s = ls

theorem Drives.nil (s : State) : Drives s [] s := ⟨rfl, rfl⟩

theorem Drives.single {s t : State} (h : txpStep s = .next t) : Drives s [t.lineOut] t :=
  ⟨by simp [txRun, h], txWave_succ 0 h⟩

theorem Drives.append {s t u : State} {ls ms : List Level} (h : Drives s ls t) (h' : Drives t ms u) :
    Drives s (ls ++ ms) u where
  run := by rw [List.length_append, txRun_add, h.run, andThen_next, h'.run]
  wave := by rw [List.length_append, txWave_add _ h.run, h.wave, h'.wave]

/-- A stretch of `n` ticks at level `x`: each tick but the last only counts on, the last leads to `t`. -/
theorem Drives.interval {pos : Nat → Level → State} {x : Level} {t : State} {n : Nat} (hn : 0 < n)
    (level : ∀ c, (pos c x).lineOut = x) (level' : t.lineOut = x)
    (stay : ∀ c l, c + 1 < n → txpStep (pos c l) = .next (pos (c + 1) x))
    (leave : ∀ c l, c + 1 = n → txpStep (pos c l) = .next t) (l : Level) :
    Drives (pos 0 l) (List.replicate n x) t := by
  have fromCount : ∀ m c l, c + (m + 1) = n → Drives (pos c l) (List.replicate (m + 1) x) t := by
    intro m
    induction m with
    | zero =>
      intro c l hc
      simpa [level'] using Drives.single (leave c l hc)
    | succ m ih =>
      intro c l hc
      have first := Drives.single (stay c l (by omega))
      rw [level] at first
      exact first.append (ih (c + 1) x (by omega))
  obtain ⟨m, rfl⟩ : ∃ m, n = m + 1 := ⟨n - 1, by omega⟩
  exact fromCount m 0 l (by omega)

/-! ### TXP's step in `Sending` -/

/-- R182: with a wire byte left, TXP takes one tick of its slot. -/
theorem txpStep_of_wireByte {s : State} {f : Frame} {b : Byte} (running : s.shutdown = false)
    (sending : s.txState = .sending) (frame : s.cur = some f) (byte : (wire f)[s.txWidx]? = some b) :
    txpStep s = .next (slotTick b s) := by
  have left : s.wireDone = false := by
    rw [← Bool.not_eq_true, State.wireDone_iff frame]
    exact (List.getElem?_eq_some_iff.mp byte).1.ne
  simp [txpStep, sequencerStep, State.wireByte, running, sending, frame, byte, left]

/-- R183: with all wire bytes sent, TXP ends the transmission. -/
theorem txpStep_of_wireDone {s : State} {f : Frame} (running : s.shutdown = false)
    (sending : s.txState = .sending) (frame : s.cur = some f) (index : s.txWidx = (wire f).length) :
    txpStep s = .next (endTransmission s) := by
  simp [txpStep, running, sending, (State.wireDone_iff frame).mpr index]

theorem endTransmission_lineOut (s : State) : (endTransmission s).lineOut = .neutral := by
  unfold endTransmission
  cases hack : s.curIsAck <;> simp [hack]

/-! ### The sequencer's positions -/

/-- `s` with the sequencer's cursor at wire byte `i`, phase `p`, count `c`, bit `k` (R26), driving `l`. -/
def State.sequencerAt (s : State) (i : Nat) (p : TxPhase) (c k : Nat) (l : Level) : State :=
  { s with txWidx := i, txPhase := p, txCnt := c, txBit := k, lineOut := l }

@[simp] theorem State.sequencerAt_lineOut (s : State) (i : Nat) (p : TxPhase) (c k : Nat) (l : Level) :
    (s.sequencerAt i p c k l).lineOut = l := rfl

/-- A first guard differs from that of the unit in the wire byte and the level only. -/
theorem AtFirstGuard.sequencerAt_guard {s : State} {f : Frame} (h : AtFirstGuard s f) (i : Nat) (l : Level) :
    s.sequencerAt i .guard 0 0 l = { s with txWidx := i, lineOut := l } := by
  simp only [State.sequencerAt, h.phase, h.count, h.bit]

theorem AtFirstGuard.sequencerAt_eq {s : State} {f : Frame} (h : AtFirstGuard s f) :
    s.sequencerAt 0 .guard 0 0 s.lineOut = s := by
  rw [h.sequencerAt_guard, ← h.index]

section Ticks
variable (s : State) (b : Byte) (i c k : Nat) (l : Level)

theorem slotTick_guard : slotTick b (s.sequencerAt i .guard c k l) =
    if c + 1 = s.cfg.guardTicks then s.sequencerAt i .start 0 k .low
    else s.sequencerAt i .guard (c + 1) k .low := rfl

theorem slotTick_start : slotTick b (s.sequencerAt i .start c k l) =
    if c + 1 = s.cfg.pulseTicks then s.sequencerAt i .bit 0 0 .high
    else s.sequencerAt i .start (c + 1) k .high := rfl

theorem slotTick_bit : slotTick b (s.sequencerAt i .bit c k l) =
    if c + 1 < s.cfg.pulseTicks then s.sequencerAt i .bit (c + 1) k (levelOfBit (b.getLsbD (7 - k)))
    else if k < 7 then s.sequencerAt i .bit 0 (k + 1) (levelOfBit (b.getLsbD (7 - k)))
    else s.sequencerAt (i + 1) .guard 0 0 (levelOfBit (b.getLsbD (7 - k))) := rfl

end Ticks

/-! ### Intervals, slots and units -/

section Slots
variable {s : State} {f : Frame} {b : Byte} {i : Nat}

/-- TXP's step anywhere in the slot of wire byte `i`. -/
theorem AtFirstGuard.txpStep_sequencerAt (h : AtFirstGuard s f) (byte : (wire f)[i]? = some b) (p : TxPhase)
    (c k : Nat) (l : Level) :
    txpStep (s.sequencerAt i p c k l) = .next (slotTick b (s.sequencerAt i p c k l)) :=
  txpStep_of_wireByte h.running h.sending h.frame byte

theorem AtFirstGuard.drives_guard (h : AtFirstGuard s f) (byte : (wire f)[i]? = some b)
    (pos : 0 < s.cfg.guardTicks) (k : Nat) (l : Level) :
    Drives (s.sequencerAt i .guard 0 k l) (List.replicate s.cfg.guardTicks .low)
      (s.sequencerAt i .start 0 k .low) := by
  refine Drives.interval (pos := fun c l => s.sequencerAt i .guard c k l) pos (fun _ => rfl) (by rfl) ?_ ?_ l
  · intro c l hc
    rw [h.txpStep_sequencerAt byte, slotTick_guard, if_neg (by omega)]
  · intro c l hc
    rw [h.txpStep_sequencerAt byte, slotTick_guard, if_pos hc]

theorem AtFirstGuard.drives_start (h : AtFirstGuard s f) (byte : (wire f)[i]? = some b)
    (pos : 0 < s.cfg.pulseTicks) (k : Nat) (l : Level) :
    Drives (s.sequencerAt i .start 0 k l) (List.replicate s.cfg.pulseTicks .high)
      (s.sequencerAt i .bit 0 0 .high) := by
  refine Drives.interval (pos := fun c l => s.sequencerAt i .start c k l) pos (fun _ => rfl) (by rfl) ?_ ?_ l
  · intro c l hc
    rw [h.txpStep_sequencerAt byte, slotTick_start, if_neg (by omega)]
  · intro c l hc
    rw [h.txpStep_sequencerAt byte, slotTick_start, if_pos hc]

/-- The interval of bit `7 - k`, into the next bit or, after bit 0, to the next wire byte. -/
theorem AtFirstGuard.drives_bit (h : AtFirstGuard s f) (byte : (wire f)[i]? = some b)
    (pos : 0 < s.cfg.pulseTicks) (k : Nat) (l : Level) :
    Drives (s.sequencerAt i .bit 0 k l)
      (List.replicate s.cfg.pulseTicks (levelOfBit (b.getLsbD (7 - k))))
      (if k < 7 then s.sequencerAt i .bit 0 (k + 1) (levelOfBit (b.getLsbD (7 - k)))
        else s.sequencerAt (i + 1) .guard 0 0 (levelOfBit (b.getLsbD (7 - k)))) := by
  refine Drives.interval (pos := fun c l => s.sequencerAt i .bit c k l) pos (fun _ => rfl) ?_ ?_ ?_ l
  · split <;> rfl
  · intro c l hc
    rw [h.txpStep_sequencerAt byte, slotTick_bit, if_pos hc]
  · intro c l hc
    rw [h.txpStep_sequencerAt byte, slotTick_bit, if_neg (by omega)]

/-- The data intervals from bit `m` down to bit 0. -/
theorem AtFirstGuard.drives_bits (h : AtFirstGuard s f) (byte : (wire f)[i]? = some b)
    (pos : 0 < s.cfg.pulseTicks) (m k : Nat) (hk : k + m = 7) (l : Level) :
    Drives (s.sequencerAt i .bit 0 k l)
      ((List.range (m + 1)).reverse.flatMap fun j =>
        List.replicate s.cfg.pulseTicks (levelOfBit (b.getLsbD j)))
      (s.sequencerAt (i + 1) .guard 0 0 (levelOfBit (b.getLsbD 0))) := by
  have bit := h.drives_bit byte pos k l
  rw [show 7 - k = m by omega] at bit
  induction m generalizing k l with
  | zero =>
    rw [if_neg (by omega)] at bit
    simpa using bit
  | succ m ih =>
    rw [if_pos (by omega)] at bit
    have next := h.drives_bit byte pos (k + 1) (levelOfBit (b.getLsbD (m + 1)))
    rw [show 7 - (k + 1) = m by omega] at next
    rw [List.range_succ, List.reverse_concat, List.flatMap_cons]
    exact bit.append (ih (k + 1) (by omega) _ next)

/-- The slot of wire byte `i` takes the sequencer from its first guard to that of byte `i + 1` (R103). -/
theorem AtFirstGuard.drives_slot (legal : s.cfg.legal = true) (h : AtFirstGuard s f)
    (byte : (wire f)[i]? = some b) (l : Level) :
    Drives (s.sequencerAt i .guard 0 0 l) (slotWave s.cfg b)
      (s.sequencerAt (i + 1) .guard 0 0 (levelOfBit (b.getLsbD 0))) := by
  obtain ⟨-, hpulse, hdwell, hguard, -⟩ := Config.legal_facts legal
  have guard := h.drives_guard byte (by omega) 0 l
  have start := h.drives_start byte (by omega) 0 .low
  have bits := h.drives_bits byte (by omega) 7 0 rfl .high
  exact (guard.append start).append bits

/-- The slots of the wire bytes from index `i` on, with nothing between them (R102). -/
theorem AtFirstGuard.drives_slots (legal : s.cfg.legal = true) (h : AtFirstGuard s f) (bs : List Byte) :
    ∀ i l, (wire f).drop i = bs → i ≤ (wire f).length →
      ∃ l', Drives (s.sequencerAt i .guard 0 0 l) (bs.flatMap (slotWave s.cfg))
        (s.sequencerAt (wire f).length .guard 0 0 l') := by
  induction bs with
  | nil =>
    intro i l hdrop hle
    obtain rfl : i = (wire f).length := le_antisymm hle (List.drop_eq_nil_iff.mp hdrop)
    exact ⟨l, Drives.nil _⟩
  | cons b bs ih =>
    intro i l hdrop _
    have byte : (wire f)[i]? = some b := by rw [← List.head?_drop, hdrop, List.head?_cons]
    have rest : (wire f).drop (i + 1) = bs := by rw [← List.tail_drop, hdrop, List.tail_cons]
    obtain ⟨l', slots⟩ := ih (i + 1) (levelOfBit (b.getLsbD 0)) rest (List.getElem?_eq_some_iff.mp byte).1
    exact ⟨l', (h.drives_slot legal byte l).append slots⟩

/-- The whole unit, and where it leaves the sequencer: past the last wire byte, all else as it was. -/
theorem AtFirstGuard.drives_unit (legal : s.cfg.legal = true) (h : AtFirstGuard s f) :
    ∃ l, Drives s (unitWave s.cfg f) (s.sequencerAt (wire f).length .guard 0 0 l) := by
  have unit := h.drives_slots legal (wire f) 0 s.lineOut List.drop_zero (Nat.zero_le _)
  rwa [h.sequencerAt_eq] at unit

end Slots

/-! ### Durations (R193) -/

theorem slotWave_length (c : Config) (b : Byte) : (slotWave c b).length = c.byteTicks := by
  simp [slotWave, dataWave, Config.byteTicks]
  omega

theorem unitWave_length (c : Config) (f : Frame) : (unitWave c f).length = (wire f).length * c.byteTicks := by
  simp [unitWave, List.length_flatMap, slotWave_length]

/-- Settles O42, by induction over the wire bytes, and within a slot over the bits and the ticks of an interval. -/
theorem transmissionWaveform : Obligations.TransmissionWaveform := by
  intro s f legal h
  obtain ⟨l, unit⟩ := h.drives_unit legal
  have last := txpStep_of_wireDone (s := s.sequencerAt (wire f).length .guard 0 0 l)
    h.running h.sending h.frame rfl
  have whole := unit.append (Drives.single last)
  rw [endTransmission_lineOut] at whole
  rw [← unitWave_length]
  refine ⟨unit.wave, ?_, rfl, _, unit.run, h.sequencerAt_guard _ l⟩
  simpa using whole.wave

end Sys2Proof.Machine

/-! PROOFS. The value of the checksum (obligation O21; R140, R141): the accumulator holds the byte sum modulo
65536, and an end-around carry keeps both the residue modulo 255 and whether the value is zero. -/

namespace Sys2Proof.Machine

@[simp] theorem zext16_toNat (b : Byte) : (zext16 b).toNat = b.toNat :=
  BitVec.toNat_setWidth_of_le (by decide)

theorem accumulate_toNat (buf : List Byte) (acc : Acc) :
    (accumulate acc buf).toNat = (acc.toNat + (buf.map BitVec.toNat).sum) % 65536 := by
  induction buf generalizing acc with
  | nil => exact (Nat.mod_eq_of_lt acc.isLt).symm
  | cons b rest ih =>
    rw [accumulate, ih, BitVec.toNat_add, zext16_toNat, List.map_cons, List.sum_cons, Nat.mod_add_mod,
      Nat.add_assoc]

theorem accumulate_zero_toNat (buf : List Byte) :
    (accumulate 0 buf).toNat = (buf.map BitVec.toNat).sum % 65536 := by
  rw [accumulate_toNat]
  exact congrArg (· % 65536) (Nat.zero_add _)

/-- Two bytes cannot overflow the accumulator, so the end-around carry loses nothing. -/
theorem foldOnce_toNat (acc : Acc) : (foldOnce acc).toNat = acc.toNat % 256 + acc.toNat / 256 := by
  have high : acc.toNat / 256 < 256 := Nat.div_lt_of_lt_mul acc.isLt
  simp only [foldOnce, BitVec.toNat_add, zext16_toNat, BitVec.extractLsb'_toNat, Nat.shiftRight_eq_div_pow,
    Nat.reducePow, Nat.div_one, Nat.mod_eq_of_lt high]
  omega

theorem foldCarry_succ (fuel : Nat) (acc : Acc) :
    foldCarry (fuel + 1) acc = if 255 < acc.toNat then foldCarry fuel (foldOnce acc) else acc := rfl

/-- What the fold keeps of the accumulator: 256 is 1 modulo 255, and a carry never empties it. -/
theorem foldCarry_residue (fuel : Nat) (acc : Acc) :
    (foldCarry fuel acc).toNat % 255 = acc.toNat % 255 ∧ ((foldCarry fuel acc).toNat = 0 ↔ acc.toNat = 0) := by
  induction fuel generalizing acc with
  | zero => exact ⟨rfl, Iff.rfl⟩
  | succ fuel ih =>
    rw [foldCarry_succ]
    split
    · obtain ⟨residue, zero⟩ := ih (foldOnce acc)
      rw [foldOnce_toNat] at residue zero
      omega
    · exact ⟨rfl, Iff.rfl⟩

/-- Two passes suffice (R140): the first leaves at most `0x1FE`, the second at most `0xFF`. -/
theorem foldCarry_two_le (acc : Acc) : (foldCarry 2 acc).toNat ≤ 255 := by
  have bound := acc.isLt
  have first := foldOnce_toNat acc
  have second := foldOnce_toNat (foldOnce acc)
  rw [foldCarry_succ, foldCarry_succ, foldCarry]
  split_ifs <;> omega

theorem checksum_toNat (buf : List Byte) :
    (checksum buf).toNat = 255 - (foldCarry 2 (accumulate 0 buf)).toNat := by
  have small := foldCarry_two_le (accumulate 0 buf)
  simp only [checksum, BitVec.toNat_not, BitVec.extractLsb'_toNat, Nat.shiftRight_zero]
  omega

/-- R141: the checksum depends on the bytes through their sum only. -/
theorem checksum_congr {buf buf' : List Byte}
    (h : (buf.map BitVec.toNat).sum % 65536 = (buf'.map BitVec.toNat).sum % 65536) :
    checksum buf = checksum buf' := by
  have acc : accumulate 0 buf = accumulate 0 buf' :=
    BitVec.eq_of_toNat_eq (by rwa [accumulate_zero_toNat, accumulate_zero_toNat])
  rw [checksum, checksum, acc]

/-- Settles O21: a value of at most 255 is known from its residue modulo 255 and whether it is zero. -/
theorem checksumLaws : Obligations.ChecksumLaws := by
  intro buf
  have value := checksum_toNat buf
  have small := foldCarry_two_le (accumulate 0 buf)
  obtain ⟨residue, zero⟩ := foldCarry_residue 2 (accumulate 0 buf)
  rw [accumulate_zero_toNat] at residue zero
  refine ⟨fun h => ?_, fun pos h => ?_, fun h => ?_, fun buf' perm => ?_⟩
  · refine BitVec.eq_of_toNat_eq ?_
    rw [value, zero.mpr h]
    rfl
  · refine BitVec.eq_of_toNat_eq ?_
    have full : (foldCarry 2 (accumulate 0 buf)).toNat = 255 := by omega
    rw [value, full]
    rfl
  · have folded : (foldCarry 2 (accumulate 0 buf)).toNat = (buf.map BitVec.toNat).sum % 65536 % 255 := by omega
    rw [value, folded]
  · exact checksum_congr (by rw [(perm.map BitVec.toNat).sum_eq])

end Sys2Proof.Machine

/-! PROOFS. The framer (obligations O25, O26, O28, O29; R160 to R166): what each class of received byte does,
what storing a run of bytes leaves in `rx_buf`, that unstuffing undoes stuffing, and the length of a unit on the
wire as its length and the count of its framing bytes. -/

namespace Sys2Proof.Machine

/-! ### The rows of the framer -/

section Rows
variable (s : State) (b : Byte)

theorem exec_unstuff : exec (.unstuff b) s = unstuffByte b s := rfl

theorem exec_store : exec (.store b) s = .next (storeByte b s) := rfl

theorem exec_unitend : exec .unitend s = endUnit s := rfl

end Rows

/-! ### The classes of a received byte (R162) -/

section Classes
variable {s : State} {b : Byte}

theorem unstuffByte_of_escaped (b : Byte) (escaped : s.rxEsc = true) :
    unstuffByte b s = .next (storeByte b { s with rxEsc := false }) := by
  simp [unstuffByte, escaped, receiveLiteral]

theorem unstuffByte_escapeByte (plain : s.rxEsc = false) :
    unstuffByte escapeByte s = .next { s with rxEsc := true } := by
  simp [unstuffByte, plain]

theorem unstuffByte_sentinelByte (plain : s.rxEsc = false) : unstuffByte sentinelByte s = endUnit s := by
  simp [unstuffByte, plain, show sentinelByte ≠ escapeByte by decide]

theorem unstuffByte_literal (plain : s.rxEsc = false) (noEscape : b ≠ escapeByte) (noSentinel : b ≠ sentinelByte) :
    unstuffByte b s = .next (storeByte b s) := by
  simp [unstuffByte, plain, noEscape, noSentinel]

/-- Within the capacity the end of a unit completes, whatever the unit's outcome. -/
theorem endUnit_completes (within : s.rxLen ≤ s.cfg.rxBufBytes) : ∃ t, endUnit s = .next t :=
  ⟨_, handleHeldUnit_eq (s := { s with rxOvf := false }) within s.rxOvf⟩

/-- Within the capacity every received byte is taken; only the end of a unit reads the buffer. -/
theorem unstuffByte_completes (b : Byte) (within : s.rxLen ≤ s.cfg.rxBufBytes) :
    ∃ t, unstuffByte b s = .next t := by
  cases hesc : s.rxEsc with
  | true => exact ⟨_, unstuffByte_of_escaped b hesc⟩
  | false =>
    by_cases hescape : b = escapeByte
    · subst hescape
      exact ⟨_, unstuffByte_escapeByte hesc⟩
    · by_cases hsentinel : b = sentinelByte
      · subst hsentinel
        rw [unstuffByte_sentinelByte hesc]
        exact endUnit_completes within
      · exact ⟨_, unstuffByte_literal hesc hescape hsentinel⟩

end Classes

/-- Settles O28: one equation of `unstuffByte` for each class. -/
theorem unstuffClassifies : Obligations.UnstuffClassifies := by
  intro s b within
  simp only [exec_unstuff, exec_store, exec_unitend]
  refine ⟨unstuffByte_completes b within, unstuffByte_of_escaped b, ?_, ?_, unstuffByte_literal⟩
  · rintro plain rfl
    exact unstuffByte_escapeByte plain
  · rintro plain rfl
    exact unstuffByte_sentinelByte plain

/-! ### Storing bytes (R163) -/

section Storing
variable {s : State} {b : Byte}

theorem storeByte_of_room (b : Byte) (room : s.rxLen < s.cfg.rxBufBytes) :
    storeByte b s = { s with rxBuf := s.rxBuf.write s.rxLen b, rxLen := s.rxLen + 1 } :=
  if_pos room

theorem storeByte_of_full (b : Byte) (atCapacity : s.cfg.rxBufBytes ≤ s.rxLen) :
    storeByte b s = { s with rxOvf := true } :=
  if_neg atCapacity.not_gt

/-- Storing never touches the escape state. -/
@[simp] theorem storeByte_rxEsc (b : Byte) (s : State) : (storeByte b s).rxEsc = s.rxEsc := by
  unfold storeByte
  split <;> rfl

/-- A byte written right past a run extends the run. -/
theorem Memory.readRun_write_end {m : Memory} (wf : m.wf = true) (n : Nat) (b : Byte) :
    (m.write n b).readRun 0 (n + 1) = m.readRun 0 n ++ [b] := by
  rw [Memory.readRun_snoc, Nat.zero_add, Memory.readRun_write _ _ _ _ _ (Nat.zero_add n).le,
    Memory.read_write_same _ _ _ wf]

/-- Bytes that fit are appended to the held unit, and nothing but `rx_buf` and `rx_len` changes. -/
theorem storeAll_of_fits (l : List Byte) (s : State) (wf : s.rxBuf.wf = true)
    (fits : s.rxLen + l.length ≤ s.cfg.rxBufBytes) :
    ∃ m : Memory, storeAll l s = { s with rxBuf := m, rxLen := s.rxLen + l.length } ∧
      m.readRun 0 (s.rxLen + l.length) = s.rxBuf.readRun 0 s.rxLen ++ l := by
  induction l generalizing s with
  | nil => exact ⟨s.rxBuf, rfl, (List.append_nil _).symm⟩
  | cons b rest ih =>
    have count : s.rxLen + 1 + rest.length = s.rxLen + (b :: rest).length := by
      rw [List.length_cons]
      omega
    have room : s.rxLen < s.cfg.rxBufBytes := by omega
    obtain ⟨m, stored, run⟩ := ih (storeByte b s)
      (by rw [storeByte_of_room b room]; exact Memory.write_wf _ _ _ wf)
      (by rw [storeByte_of_room b room]; exact count.trans_le fits)
    rw [storeByte_of_room b room] at stored run
    simp only [count, Memory.readRun_write_end wf, List.append_assoc, List.singleton_append] at stored run
    exact ⟨m, by rw [storeAll, storeByte_of_room b room, stored], run⟩

end Storing

/-- Settles O29: the two cases of `storeByte`, read through the laws of the byte storage. -/
theorem storeBounded : Obligations.StoreBounded := by
  intro s b
  rw [exec_store]
  refine ⟨fun room => ?_, fun atCapacity => by rw [storeByte_of_full b atCapacity]⟩
  rw [storeByte_of_room b room]
  exact ⟨_, rfl, rfl, fun wf => ⟨Memory.read_write_same _ _ _ wf, Memory.write_wf _ _ _ wf⟩,
    fun a => Memory.read_write_ne _ _ _ _⟩

/-! ### Stuffing (R160) -/

/-- `b` is one of the two bytes that the framer escapes. -/
def isFramingByte (b : Byte) : Bool := decide (b = sentinelByte ∨ b = escapeByte)

theorem isFramingByte_iff (b : Byte) : isFramingByte b = true ↔ b = sentinelByte ∨ b = escapeByte :=
  decide_eq_true_iff

theorem stuffByte_of_framing {b : Byte} (framing : isFramingByte b = true) : stuffByte b = [escapeByte, b] :=
  if_pos ((isFramingByte_iff b).mp framing)

theorem stuffByte_of_not_framing {b : Byte} (data : isFramingByte b = false) : stuffByte b = [b] :=
  if_neg (of_decide_eq_false data)

theorem stuff_eq_flatMap (l : List Byte) : stuff l = l.flatMap stuffByte := by
  induction l with
  | nil => rfl
  | cons b rest ih => rw [stuff, ih, List.flatMap_cons]

theorem stuff_of_no_framing {l : List Byte} (data : ∀ b ∈ l, isFramingByte b = false) : stuff l = l := by
  induction l with
  | nil => rfl
  | cons b rest ih =>
    obtain ⟨first, others⟩ := List.forall_mem_cons.mp data
    rw [stuff, stuffByte_of_not_framing first, ih others, List.singleton_append]

/-- Stuffing adds one byte for each framing byte. -/
theorem stuff_length (l : List Byte) : (stuff l).length = l.length + l.countP isFramingByte := by
  induction l with
  | nil => rfl
  | cons b rest ih =>
    rw [stuff, List.length_append, ih, List.length_cons]
    cases framing : isFramingByte b with
    | true =>
      rw [stuffByte_of_framing framing, List.countP_cons_of_pos framing, List.length_cons, List.length_singleton]
      omega
    | false =>
      rw [stuffByte_of_not_framing framing, List.countP_cons_of_neg (by simp [framing]), List.length_singleton]
      omega

/-! ### Unstuffing undoes stuffing (R165) -/

theorem receiveBytes_append (l l' : List Byte) (s : State) :
    receiveBytes (l ++ l') s = andThen (receiveBytes l s) (receiveBytes l') := by
  induction l generalizing s with
  | nil => rfl
  | cons b rest ih =>
    rw [List.cons_append, receiveBytes, receiveBytes, andThen_assoc]
    exact congrArg (andThen (unstuffByte b s)) (funext ih)

theorem receiveBytes_singleton (b : Byte) (s : State) : receiveBytes [b] s = unstuffByte b s := by
  change andThen (unstuffByte b s) .next = unstuffByte b s
  cases unstuffByte b s <;> rfl

/-- The stuffed form of a byte is received as that byte: the escape arms the framer, the next byte disarms it. -/
theorem receiveBytes_stuffByte (b : Byte) {s : State} (plain : s.rxEsc = false) :
    receiveBytes (stuffByte b) s = .next (storeByte b s) := by
  cases framing : isFramingByte b with
  | true =>
    have disarmed : { s with rxEsc := false } = s := by rw [← plain]
    rw [stuffByte_of_framing framing, receiveBytes, unstuffByte_escapeByte plain, andThen_next,
      receiveBytes_singleton, unstuffByte_of_escaped b rfl, disarmed]
  | false =>
    obtain ⟨noSentinel, noEscape⟩ := not_or.mp (of_decide_eq_false framing)
    rw [stuffByte_of_not_framing framing, receiveBytes_singleton, unstuffByte_literal plain noEscape noSentinel]

/-- A stuffed sequence has each of its bytes stored, within the capacity or past it, and ends no unit. -/
theorem receiveBytes_stuff (l : List Byte) {s : State} (plain : s.rxEsc = false) :
    receiveBytes (stuff l) s = .next (storeAll l s) := by
  induction l generalizing s with
  | nil => rfl
  | cons b rest ih =>
    rw [stuff, receiveBytes_append, receiveBytes_stuffByte b plain, andThen_next,
      ih ((storeByte_rxEsc b s).trans plain), storeAll]

/-- An empty framer that receives a stuffed sequence within the capacity holds exactly that sequence. -/
theorem receiveBytes_stuff_heldUnit {s : State} {l : List Byte} (wf : s.rxBuf.wf = true)
    (plain : s.rxEsc = false) (start : s.rxLen = 0) (fits : l.length ≤ s.cfg.rxBufBytes) :
    ∃ t, receiveBytes (stuff l) s = .next t ∧ t.heldUnit = some l ∧
      t = { s with rxBuf := t.rxBuf, rxLen := l.length } := by
  obtain ⟨m, stored, run⟩ := storeAll_of_fits l s wf (by rwa [start, Nat.zero_add])
  simp only [start, Nat.zero_add, Memory.readRun_zero, List.nil_append] at stored run
  refine ⟨_, receiveBytes_stuff l plain, ?_, by rw [stored]⟩
  rw [stored, State.heldUnit_eq fits, run]

/-- The wire bytes of a frame are its stuffed encoding and then the end of the unit. -/
theorem receiveBytes_wire {s t : State} {f : Frame} (body : receiveBytes (stuff (encodeFrame f)) s = .next t)
    (plain : t.rxEsc = false) : receiveBytes (wire f) s = endUnit t := by
  rw [wire, receiveBytes_append, body, andThen_next, receiveBytes_singleton, unstuffByte_sentinelByte plain]

/-- Settles O25: unstuffing is by induction over the bytes that were stuffed. -/
theorem stuffingRoundTrip : Obligations.StuffingRoundTrip := by
  refine ⟨fun l data => ?_, stuff_eq_flatMap, fun s l => receiveBytes_stuff_heldUnit,
    fun s f wf plain _ start fits => ?_⟩
  · exact stuff_of_no_framing fun b hb => decide_eq_false (not_or.mpr (data b hb))
  · obtain ⟨t, body, held, frame⟩ := receiveBytes_stuff_heldUnit wf plain start fits
    have disarmed : t.rxEsc = false := by rw [frame, ← plain]
    exact ⟨t, body, held, frame, receiveBytes_wire body disarmed⟩

/-! ### Lengths on the wire (R166) -/

theorem wire_length (f : Frame) :
    (wire f).length = (encodeFrame f).length + (encodeFrame f).countP isFramingByte + 1 := by
  rw [wire, List.length_append, stuff_length, List.length_singleton]

theorem wire_length_le (f : Frame) : (wire f).length ≤ 2 * (encodeFrame f).length + 1 := by
  have escapes := List.countP_le_length (p := isFramingByte) (l := encodeFrame f)
  rw [wire_length]
  omega

theorem encodeFrame_length_le (f : Frame) : (encodeFrame f).length ≤ headerBytes + f.payload.length := by
  unfold encodeFrame
  split
  · exact Nat.le_add_right headerBytes _
  · rw [List.length_append]
    exact le_rfl

theorem encodeFrame_ackbuild (p : PendingAck) (myId : Byte) : encodeFrame (ackbuild p myId) =
    [myId, p.destination, p.sequence, checksum [myId, p.destination, p.sequence], 0xFF] := rfl

/-- The header checksum of three framing bytes: their sum lies from `0x177` to `0x17A`. -/
theorem checksum_of_framing {a b c : Byte} (ha : a = sentinelByte ∨ a = escapeByte)
    (hb : b = sentinelByte ∨ b = escapeByte) (hc : c = sentinelByte ∨ c = escapeByte) :
    checksum [a, b, c] ∈ [0x84, 0x85, 0x86, 0x87] := by
  have table : ∀ a ∈ [sentinelByte, escapeByte], ∀ b ∈ [sentinelByte, escapeByte],
      ∀ c ∈ [sentinelByte, escapeByte], checksum [a, b, c] ∈ ([0x84, 0x85, 0x86, 0x87] : List Byte) := by decide
  exact table a (List.mem_pair.mpr ha) b (List.mem_pair.mpr hb) c (List.mem_pair.mpr hc)

theorem isFramingByte_checksum {a b c : Byte} (ha : isFramingByte a = true) (hb : isFramingByte b = true)
    (hc : isFramingByte c = true) : isFramingByte (checksum [a, b, c]) = false := by
  rw [isFramingByte_iff] at ha hb hc
  have values : ∀ h ∈ ([0x84, 0x85, 0x86, 0x87] : List Byte), isFramingByte h = false := by decide
  exact values _ (checksum_of_framing ha hb hc)

/-- At most three bytes of an acknowledgment are escaped: its payload checksum never is, and where the three
bytes before the header checksum all are, the header checksum is not. -/
theorem ackbuild_framing_le (p : PendingAck) (myId : Byte) :
    (encodeFrame (ackbuild p myId)).countP isFramingByte ≤ 3 := by
  have payloadChecksum : isFramingByte 0xFF = false := by decide
  have headerChecksum := isFramingByte_checksum (a := myId) (b := p.destination) (c := p.sequence)
  simp only [encodeFrame_ackbuild, List.countP_cons, List.countP_nil, payloadChecksum]
  grind

/-- Settles O26: a unit takes its length, one byte for each framing byte, and the sentinel. -/
theorem wireLengthBounds : Obligations.WireLengthBounds := by
  refine ⟨fun f => ⟨?_, wire_length_le f⟩, fun p myId => ⟨rfl, ?_⟩, fun _ _ _ => checksum_of_framing,
    by decide, fun f short => ?_⟩
  · rw [wire_length]
    omega
  · have escapes := ackbuild_framing_le p myId
    have five : (encodeFrame (ackbuild p myId)).length = 5 := rfl
    rw [wire_length]
    omega
  · have bound := wire_length_le f
    have unit : (encodeFrame f).length ≤ 5 + f.payload.length := encodeFrame_length_le f
    omega

end Sys2Proof.Machine

/-! PROOFS. The transmit path's table (obligations O15, O48, O50; R210 to R222): what TXP's step does in each of
its states, that the rows of TXP and RXP do their path's step, and that the turns of the other agents leave TXP's
registers alone (R48). -/

namespace Sys2Proof.Machine

/-! ### TXP's step, state by state (R210) -/

section Dispatch
variable {s : State}

/-- R221. -/
theorem txpStep_of_halted (halted : s.txState = .halted) : txpStep s = .next s :=
  if_pos halted

/-- R211. -/
theorem txpStep_of_shutdown (active : s.txState ≠ .halted) (stopping : s.shutdown = true) :
    txpStep s = .next s.haltTx := by
  simp [txpStep, active, stopping]

/-- R212: a pending acknowledgment goes first. -/
theorem txpStep_of_pendingAck {p : PendingAck} (running : s.shutdown = false) (idle : s.txState = .idle)
    (pending : s.pendingAck = some p) : txpStep s = .next (takeAck p s) := by
  simp [txpStep, running, idle, pending]

/-- R213. -/
theorem txpStep_of_descriptor {d : SendDesc} {rest : List SendDesc} (running : s.shutdown = false)
    (idle : s.txState = .idle) (noAck : s.pendingAck = none) (queued : s.outq = d :: rest) :
    txpStep s = .next (takeDescriptor d rest s) := by
  simp [txpStep, running, idle, noAck, queued]

/-- R214. -/
theorem txpStep_of_noWork (running : s.shutdown = false) (idle : s.txState = .idle)
    (noAck : s.pendingAck = none) (noData : s.outq = []) : txpStep s = .next s := by
  simp [txpStep, running, idle, noAck, noData]

/-- R182, R183. -/
theorem txpStep_of_sending (running : s.shutdown = false) (sending : s.txState = .sending) :
    txpStep s = if s.wireDone then .next (endTransmission s) else sequencerStep s := by
  simp [txpStep, running, sending]

/-- R216: the signal is consumed whatever the timer says. -/
theorem txpStep_of_ackFlag (running : s.shutdown = false) (waiting : s.txState = .awaitingAck)
    (acked : s.ackFlag = true) : txpStep s = .next (consumeAck s) := by
  simp [txpStep, running, waiting, acked]

/-- R217, below the limit. -/
theorem txpStep_of_timerRuns (running : s.shutdown = false) (waiting : s.txState = .awaitingAck)
    (silent : s.ackFlag = false) (below : s.timerExpires = false) : txpStep s = .next (countTimer s) := by
  simp [txpStep, running, waiting, silent, below]

/-- R218. -/
theorem txpStep_of_retriesLeft (running : s.shutdown = false) (waiting : s.txState = .awaitingAck)
    (silent : s.ackFlag = false) (timeout : s.timerExpires = true) (left : s.retriesLeft = true) :
    txpStep s = .next (retransmit s) := by
  simp [txpStep, running, waiting, silent, timeout, left]

/-- R219. -/
theorem txpStep_of_retriesUsed (running : s.shutdown = false) (waiting : s.txState = .awaitingAck)
    (silent : s.ackFlag = false) (timeout : s.timerExpires = true) (used : s.retriesLeft = false) :
    txpStep s = .next (giveUp s) := by
  simp [txpStep, running, waiting, silent, timeout, used]

/-- R220. -/
theorem txpStep_of_failed (running : s.shutdown = false) (failed : s.txState = .failed) :
    txpStep s = failFrame s := by
  simp [txpStep, running, failed]

/-- With something to do, `Idle` is left for `Sending` in the step itself (R212 to R214). -/
theorem txpStep_of_work (running : s.shutdown = false) (idle : s.txState = .idle)
    (work : s.pendingAck ≠ none ∨ s.outq ≠ []) : ∃ t, txpStep s = .next t ∧ t.txState = .sending := by
  cases pending : s.pendingAck with
  | some p => exact ⟨_, txpStep_of_pendingAck running idle pending, rfl⟩
  | none =>
    cases queued : s.outq with
    | cons d rest => exact ⟨_, txpStep_of_descriptor running idle pending queued, rfl⟩
    | nil => simp [pending, queued] at work

end Dispatch

/-! ### What the rules of TXP do to `tx_state` -/

@[simp] theorem slotTick_txState (b : Byte) (s : State) : (slotTick b s).txState = s.txState := by
  unfold slotTick
  cases s.txPhase <;> dsimp only <;> split_ifs <;> rfl

theorem endTransmission_txState (s : State) :
    (endTransmission s).txState = if s.curIsAck then .idle else .awaitingAck := by
  cases acknowledgment : s.curIsAck <;> simp [endTransmission, acknowledgment]

/-- R220: once the failure is reported, TXP goes on. -/
theorem failFrame_txState {s t : State} (h : failFrame s = .next t) : t.txState = .idle := by
  obtain ⟨u, -, resumed⟩ := andThen_eq_next.mp h
  cases resumed
  rfl

/-- R218 where the retry counter does not wrap. -/
theorem retransmit_eq {s : State} (noWrap : s.retry + 1 < 2 ^ s.cfg.retryBits) :
    retransmit s =
      { s with
        ackTimer := s.ackTimer + 1, retry := s.retry + 1, txWidx := 0, txPhase := .guard, txCnt := 0, txBit := 0
        txState := .sending } := by
  rw [← State.retryNext_eq noWrap]
  rfl

/-- R219 where the retry counter does not wrap. -/
theorem giveUp_eq {s : State} (noWrap : s.retry + 1 < 2 ^ s.cfg.retryBits) :
    giveUp s = { s with ackTimer := s.ackTimer + 1, retry := s.retry + 1, txState := .failed } := by
  rw [← State.retryNext_eq noWrap]
  rfl

/-- While TXP waits, the next count fits the retry counter (R10, R37). -/
theorem EndpointInv.retry_noWrap {s : State} (inv : EndpointInv s) (waiting : s.txState = .awaitingAck) :
    s.retry + 1 < 2 ^ s.cfg.retryBits := by
  have bound := inv.transmit.retriesLeft (.inr waiting)
  obtain ⟨-, -, -, -, -, -, -, width, -⟩ := Config.legal_facts inv.legal
  omega

/-! ### TXP's rows do TXP's step (R125, R210) -/

section TxRows
variable (s : State)

@[simp] theorem exec_txHalted (x : Bool) : exec (.txHalted x) s = txpStep s := by
  refine orDispatched_eq fun selected => ?_
  simp only [Bool.and_eq_true, decide_eq_true_eq] at selected
  exact (txpStep_of_halted selected.1).symm

@[simp] theorem exec_txHalt (st : TxState) : exec (.txHalt st) s = txpStep s := by
  refine orDispatched_eq fun selected => ?_
  simp only [Bool.and_eq_true, decide_eq_true_eq] at selected
  obtain ⟨⟨stopping, active⟩, rfl⟩ := selected
  exact (txpStep_of_shutdown active stopping).symm

@[simp] theorem exec_txIdleAck : exec .txIdleAck s = txpStep s := by
  change execTxIdleAck s = txpStep s
  unfold execTxIdleAck
  cases pending : s.pendingAck with
  | none => rfl
  | some p =>
    refine orDispatched_eq fun selected => ?_
    obtain ⟨running, idle⟩ := (s.txIn_iff _).mp selected
    exact (txpStep_of_pendingAck running idle pending).symm

@[simp] theorem exec_txIdleData : exec .txIdleData s = txpStep s := by
  change execTxIdleData s = txpStep s
  unfold execTxIdleData
  cases queued : s.outq with
  | nil => rfl
  | cons d rest =>
    refine orDispatched_eq fun selected => ?_
    simp only [Bool.and_eq_true, State.txIn_iff, Option.isNone_iff_eq_none] at selected
    obtain ⟨⟨running, idle⟩, noAck⟩ := selected
    exact (txpStep_of_descriptor running idle noAck queued).symm

@[simp] theorem exec_txIdleWait : exec .txIdleWait s = txpStep s := by
  refine orDispatched_eq fun selected => ?_
  simp only [Bool.and_eq_true, State.txIn_iff, Option.isNone_iff_eq_none, empty_iff] at selected
  obtain ⟨⟨⟨running, idle⟩, noAck⟩, noData⟩ := selected
  exact (txpStep_of_noWork running idle noAck noData).symm

@[simp] theorem exec_txseq : exec .txseq s = txpStep s := by
  refine orDispatched_eq fun selected => ?_
  simp only [Bool.and_eq_true, Bool.not_eq_true', State.txIn_iff] at selected
  obtain ⟨⟨running, sending⟩, left⟩ := selected
  simp [txpStep_of_sending running sending, left]

@[simp] theorem exec_txSent : exec .txSent s = txpStep s := by
  refine orDispatched_eq fun selected => ?_
  simp only [Bool.and_eq_true, State.txIn_iff] at selected
  obtain ⟨⟨running, sending⟩, done⟩ := selected
  simp [txpStep_of_sending running sending, done]

@[simp] theorem exec_txAcked : exec .txAcked s = txpStep s := by
  refine orDispatched_eq fun selected => ?_
  simp only [Bool.and_eq_true, State.txIn_iff] at selected
  obtain ⟨⟨running, waiting⟩, acked⟩ := selected
  exact (txpStep_of_ackFlag running waiting acked).symm

@[simp] theorem exec_txWait : exec .txWait s = txpStep s := by
  refine orDispatched_eq fun selected => ?_
  simp only [Bool.and_eq_true, Bool.not_eq_true', State.txIn_iff] at selected
  obtain ⟨⟨⟨running, waiting⟩, silent⟩, below⟩ := selected
  exact (txpStep_of_timerRuns running waiting silent below).symm

@[simp] theorem exec_txRetransmit : exec .txRetransmit s = txpStep s := by
  refine orDispatched_eq fun selected => ?_
  simp only [Bool.and_eq_true, Bool.not_eq_true', State.txIn_iff] at selected
  obtain ⟨⟨⟨⟨running, waiting⟩, silent⟩, timeout⟩, left⟩ := selected
  exact (txpStep_of_retriesLeft running waiting silent timeout left).symm

@[simp] theorem exec_txLimit : exec .txLimit s = txpStep s := by
  refine orDispatched_eq fun selected => ?_
  simp only [Bool.and_eq_true, Bool.not_eq_true', State.txIn_iff] at selected
  obtain ⟨⟨⟨⟨running, waiting⟩, silent⟩, timeout⟩, used⟩ := selected
  exact (txpStep_of_retriesUsed running waiting silent timeout used).symm

@[simp] theorem exec_txFailed : exec .txFailed s = txpStep s := by
  refine orDispatched_eq fun selected => ?_
  obtain ⟨running, failed⟩ := (s.txIn_iff _).mp selected
  exact (txpStep_of_failed running failed).symm

end TxRows

/-- Whatever row the decoder reads from a control word of TXP, it does TXP's step. -/
theorem exec_of_decodeTxstep {c : Cond} {w : BitVec 4} {i : Instr} (h : decodeTxstep c w = .ok i) (s : State) :
    exec i s = txpStep s := by
  unfold decodeTxstep at h
  split at h
  · cases h
  · cases h
    exact exec_txHalted s _
  · split at h
    · cases h
      exact exec_txHalt s _
    · repeat' split at h
      all_goals cases h
      all_goals simp

/-- The control word names TXP's state. -/
theorem State.ofCode_txWord (s : State) : TxState.ofCode (s.txWord.extractLsb' 0 3) = some s.txState := by
  unfold State.txWord
  cases s.shutdown <;> cases s.txState <;> rfl

/-- A row is always selected (R125, R210). -/
theorem State.txInstr_ok (s : State) : ∃ i, s.txInstr = .ok i := by
  change ∃ i, decodeTxstep s.cond s.txWord = .ok i
  unfold decodeTxstep
  rw [s.ofCode_txWord]
  cases s.txState
  all_goals dsimp only
  all_goals repeat' split
  all_goals exact ⟨_, rfl⟩

/-! ### RXP's rows do RXP's step (R125, R240) -/

section RxRows
variable {s : State}

/-- R250. -/
theorem rxpStep_of_halted (halted : s.rxState = .halted) : rxpStep s = .next s :=
  if_pos halted

/-- R250. -/
theorem rxpStep_of_shutdown (active : s.rxState ≠ .halted) (stopping : s.shutdown = true) :
    rxpStep s = .next s.haltRx := by
  simp [rxpStep, active, stopping]

/-- R187. -/
theorem rxpStep_of_hunt (running : s.shutdown = false) (hunting : s.rxState = .hunt) :
    rxpStep s = .next (huntSample s.getLevel s) := by
  simp [rxpStep, running, hunting]

/-- R189. -/
theorem rxpStep_of_data (running : s.shutdown = false) (receiving : s.rxState = .data) :
    rxpStep s = dataSample s.getLevel s := by
  simp [rxpStep, running, receiving]

/-- R247. -/
theorem rxpStep_of_deliver (running : s.shutdown = false) (delivering : s.rxState = .deliver) :
    rxpStep s = deliverHeld s := by
  simp [rxpStep, running, delivering]

variable (s)

@[simp] theorem exec_rxHalted (x : Bool) : exec (.rxHalted x) s = rxpStep s := by
  refine orDispatched_eq fun selected => ?_
  simp only [Bool.and_eq_true, decide_eq_true_eq] at selected
  exact (rxpStep_of_halted selected.1).symm

@[simp] theorem exec_rxHalt (st : RxState) : exec (.rxHalt st) s = rxpStep s := by
  refine orDispatched_eq fun selected => ?_
  simp only [Bool.and_eq_true, decide_eq_true_eq] at selected
  obtain ⟨⟨stopping, active⟩, rfl⟩ := selected
  exact (rxpStep_of_shutdown active stopping).symm

@[simp] theorem exec_rxDeliver : exec .rxDeliver s = rxpStep s := by
  refine orDispatched_eq fun selected => ?_
  obtain ⟨running, state⟩ := (s.rxIn_iff _).mp selected
  exact (rxpStep_of_deliver running state).symm

@[simp] theorem exec_rxhunt : exec .rxhunt s = rxpStep s := by
  refine orDispatched_eq fun selected => ?_
  obtain ⟨running, state⟩ := (s.rxIn_iff _).mp selected
  exact (rxpStep_of_hunt running state).symm

@[simp] theorem exec_rxdata : exec .rxdata s = rxpStep s := by
  refine orDispatched_eq fun selected => ?_
  obtain ⟨running, state⟩ := (s.rxIn_iff _).mp selected
  exact (rxpStep_of_data running state).symm

end RxRows

/-- Whatever row the decoder reads from a control word of RXP, it does RXP's step. -/
theorem exec_decodeRxstep (w : BitVec 3) (s : State) : exec (decodeRxstep w) s = rxpStep s := by
  unfold decodeRxstep
  split
  · exact exec_rxHalted s _
  · split_ifs
    · exact exec_rxHalt s _
    · split <;> simp

/-! ### TXP's registers outside TXP's turn (R48) -/

/-- The registers that TXP alone writes (R48), with the configuration; all else as after reset. Two states with
one `transmitSide` agree in each of these registers. -/
def State.transmitSide (s : State) : State :=
  { State.resetWith s.cfg with
    cur := s.cur
    curIsAck := s.curIsAck
    txState := s.txState
    framesSent := s.framesSent
    retry := s.retry
    ackTimer := s.ackTimer
    txWidx := s.txWidx
    txPhase := s.txPhase
    txCnt := s.txCnt
    txBit := s.txBit
    lineOut := s.lineOut
    failSticky := s.failSticky }

theorem State.txState_eq_of_transmitSide {s t : State} (h : t.transmitSide = s.transmitSide) :
    t.txState = s.txState := by
  change t.transmitSide.txState = s.transmitSide.txState
  rw [h]

@[simp] theorem storeByte_transmitSide (b : Byte) (s : State) :
    (storeByte b s).transmitSide = s.transmitSide := by
  unfold storeByte
  split_ifs <;> rfl

theorem acceptFrame_transmitSide (f : Frame) (s : State) :
    (acceptFrame f s).transmitSide = s.transmitSide := by
  unfold acceptFrame
  dsimp only
  split_ifs <;> rfl

theorem dropDuplicate_transmitSide (f : Frame) (s : State) :
    (dropDuplicate f s).transmitSide = s.transmitSide := by
  unfold dropDuplicate
  split_ifs <;> rfl

/-- R241: whatever becomes of a unit, TXP learns of it through `ack_flag` and `pendingAck` alone. -/
theorem handleUnit_transmitSide (u : List Byte) (ovf : Bool) (s : State) :
    (handleUnit u ovf s).transmitSide = s.transmitSide := by
  unfold handleUnit
  split
  · rfl
  · split
    · rfl
    · rfl
    · exact acceptFrame_transmitSide _ s
    · exact dropDuplicate_transmitSide _ s
    · rfl

theorem endUnit_transmitSide {s t : State} (h : endUnit s = .next t) : t.transmitSide = s.transmitSide := by
  unfold endUnit handleHeldUnit at h
  split at h
  · cases h
    exact handleUnit_transmitSide _ _ _
  · cases h

theorem unstuffByte_transmitSide {b : Byte} {s t : State} (h : unstuffByte b s = .next t) :
    t.transmitSide = s.transmitSide := by
  unfold unstuffByte at h
  split_ifs at h
  · cases h
    exact storeByte_transmitSide b _
  · cases h
    rfl
  · exact endUnit_transmitSide h
  · cases h
    exact storeByte_transmitSide b s

theorem huntSample_transmitSide (v : Int) (s : State) : (huntSample v s).transmitSide = s.transmitSide := by
  unfold huntSample
  split_ifs <;> rfl

theorem takeBit_transmitSide {v : Int} {s t : State} (h : takeBit v s = .next t) :
    t.transmitSide = s.transmitSide := by
  unfold takeBit at h
  dsimp only at h
  split_ifs at h
  · have kept := unstuffByte_transmitSide h
    exact kept
  · cases h
    rfl

theorem dataSample_transmitSide {v : Int} {s t : State} (h : dataSample v s = .next t) :
    t.transmitSide = s.transmitSide := by
  unfold dataSample at h
  split_ifs at h
  · have kept := takeBit_transmitSide h
    exact kept
  · cases h
    rfl

theorem deliverHeld_transmitSide {s t : State} (h : deliverHeld s = .next t) :
    t.transmitSide = s.transmitSide := by
  unfold deliverHeld at h
  repeat' split at h
  all_goals cases h
  all_goals rfl

theorem rxpStep_transmitSide {s t : State} (h : rxpStep s = .next t) : t.transmitSide = s.transmitSide := by
  unfold rxpStep at h
  split_ifs at h
  · cases h
    rfl
  · cases h
    rfl
  · split at h
    · exact deliverHeld_transmitSide h
    · cases h
      exact huntSample_transmitSide _ s
    · exact dataSample_transmitSide h
    · cases h
      rfl

/-! ### The HOST's requests -/

theorem execSend_transmitSide {dst : Byte} {payload : List Byte} {s t : State}
    (h : execSend dst payload s = .next t) : t.transmitSide = s.transmitSide := by
  unfold execSend at h
  dsimp only at h
  split at h <;> cases h <;> rfl

theorem execRecv_transmitSide {s t : State} (h : execRecv s = .next t) : t.transmitSide = s.transmitSide := by
  unfold execRecv at h
  split_ifs at h
  · cases h
    rfl
  · split at h <;> cases h <;> rfl

/-- R269: which request of a vector is handled first. -/
theorem decodeHreq_cases {w : BitVec 4} {dst : Byte} {payload : List Byte} {i : Instr}
    (h : decodeHreq w dst payload = .ok i) :
    i = .reset ∧ w.getLsbD 3 = true ∨ i = .shutdown ∨ i = .send dst payload ∨ i = .recv := by
  unfold decodeHreq at h
  split_ifs at h <;> cases h <;> simp_all

/-- The HOST's turn resets TXP with `RESET` and otherwise leaves its registers alone (R48, R320). -/
theorem hostTurn_transmitSide {s t : State} (h : hostTurn s = .next t) :
    t.transmitSide = s.transmitSide ∨ s.hReq.getLsbD 3 = true ∧ t.txState = .idle := by
  unfold hostTurn at h
  split at h
  · cases h
    exact .inl rfl
  · split at h
    · next i request =>
      obtain ⟨rfl, bit⟩ | rfl | rfl | rfl := decodeHreq_cases request
      · cases h
        exact .inr ⟨bit, rfl⟩
      · cases h
        exact .inl rfl
      · exact .inl (execSend_transmitSide (s := s.afterRequest (.send _ _)) h)
      · exact .inl (execRecv_transmitSide (s := s.afterRequest .recv) h)
    · cases h

/-! ### The turns of a tick -/

section Turns
variable {s t : State} (legal : s.cfg.legal = true) (own : s.opPort = none)
include legal own

theorem step_line (turn : s.turn = .line) : step s = .next s.beginTick := by
  simp [step, legal, own, turn]

theorem step_host (turn : s.turn = .host) : step s = hostTurn s := by
  simp [step, legal, own, turn]

/-- RXP's turn is RXP's step, after which it is TXP's turn (R80, R240). -/
theorem step_rxp (turn : s.turn = .rxp) : step s = rxpStep { s with turn := .txp } := by
  rw [← exec_decodeRxstep s.rxWord]
  simp [step, legal, own, turn, runDecoded, State.rxInstr, decode]

/-- TXP's turn is TXP's step, after which the next tick begins (R80, R210). -/
theorem step_txp (turn : s.turn = .txp) : step s = txpStep { s with turn := .line } := by
  obtain ⟨i, row⟩ := s.txInstr_ok
  rw [← exec_of_decodeTxstep row]
  simp [step, legal, own, turn, runDecoded, row]

/-- No turn but TXP's own writes TXP's registers, `RESET` aside (R48). -/
theorem step_transmitSide (h : step s = .next t) (turn : s.turn ≠ .txp) :
    t.transmitSide = s.transmitSide ∨ s.turn = .host ∧ s.hReq.getLsbD 3 = true ∧ t.txState = .idle := by
  cases agent : s.turn with
  | line =>
    rw [step_line legal own agent] at h
    cases h
    exact .inl rfl
  | host =>
    rw [step_host legal own agent] at h
    exact (hostTurn_transmitSide h).imp_right fun reset => ⟨rfl, reset⟩
  | rxp =>
    rw [step_rxp legal own agent] at h
    exact .inl (rxpStep_transmitSide (s := { s with turn := .txp }) h)
  | txp => exact absurd agent turn

end Turns

/-! ### The rows of R222 -/

/-- Settles O48: the row is TXP's step, and that step takes whatever work there is. -/
theorem idleWaitsForWork : Obligations.IdleWaitsForWork := by
  intro s running idle
  refine ⟨fun noAck noData => ?_, txpStep_of_work running idle⟩
  rw [exec_txIdleWait, txpStep_of_noWork running idle noAck noData]

/-- Settles O50: each row is TXP's step, which its condition decides. -/
theorem awaitingRows : Obligations.AwaitingRows := by
  intro s running waiting noWrap
  have count := State.retryNext_eq noWrap
  refine ⟨fun acked => ?_, fun silent below => ?_, fun silent limit left => ?_, fun silent limit used => ?_⟩
  · rw [exec_txAcked, txpStep_of_ackFlag running waiting acked]
    rfl
  · rw [exec_txWait, txpStep_of_timerRuns running waiting silent (s.timerExpires_eq_false.mpr below)]
    rfl
  · have retriesLeft : s.retriesLeft = true := s.retriesLeft_iff.mpr (count ▸ left)
    rw [exec_txRetransmit, txpStep_of_retriesLeft running waiting silent (s.timerExpires_iff.mpr limit) retriesLeft,
      retransmit_eq noWrap]
  · have retriesUsed : s.retriesLeft = false := decide_eq_false (count ▸ used.not_ge)
    rw [exec_txLimit, txpStep_of_retriesUsed running waiting silent (s.timerExpires_iff.mpr limit) retriesUsed,
      giveUp_eq noWrap]

/-- R182: with wire bytes left TXP stays in `Sending`; the cursor's range (R26) leaves nothing past them. -/
theorem txpStep_txState_of_wireLeft {s t : State} {f : Frame} (h : txpStep s = .next t) (running : s.shutdown = false)
    (sending : s.txState = .sending) (frame : s.cur = some f) (range : s.txWidx ≤ (wire f).length)
    (left : s.txWidx ≠ (wire f).length) : t.txState = .sending := by
  have byte := List.getElem?_eq_getElem (lt_of_le_of_ne range left)
  rw [txpStep_of_wireByte running sending frame byte] at h
  cases h
  rw [slotTick_txState, sending]

/-- R218, R219: at the limit the new retry count decides between another transmission and the failure. -/
theorem txpStep_txState_of_timeout {s t : State} (h : txpStep s = .next t) (running : s.shutdown = false)
    (waiting : s.txState = .awaitingAck) (silent : s.ackFlag = false)
    (limit : s.cfg.ackTimeoutTicks ≤ s.ackTimer + 1) (noWrap : s.retry + 1 < 2 ^ s.cfg.retryBits) :
    t.txState = if s.retry + 1 ≤ s.cfg.maxAttempts then .sending else .failed := by
  have timeout := s.timerExpires_iff.mpr limit
  rw [← State.retryNext_eq noWrap]
  split_ifs with left
  · rw [txpStep_of_retriesLeft running waiting silent timeout (s.retriesLeft_iff.mpr left)] at h
    cases h
    rfl
  · rw [txpStep_of_retriesUsed running waiting silent timeout (decide_eq_false left)] at h
    cases h
    rfl

/-- R220. -/
theorem txpStep_txState_of_failed {s t : State} (h : txpStep s = .next t) (running : s.shutdown = false)
    (failed : s.txState = .failed) : t.txState = .idle :=
  failFrame_txState ((txpStep_of_failed running failed).symm.trans h)

/-- Settles O15: TXP's turn is TXP's step, whose rule in each row is known; no other turn writes `tx_state`. -/
theorem transmitTransitionTable : Obligations.TransmitTransitionTable := by
  intro s t inv h
  refine ⟨fun turn => ?_, fun turn => ?_⟩
  · rw [step_txp inv.legal inv.own turn] at h
    have leadsTo {u : State} (rule : txpStep { s with turn := .line } = .next u) : t = u :=
      Host.Outcome.next.inj (h.symm.trans rule)
    refine ⟨fun halted => ?_, fun active stopping => ?_, fun running =>
      ⟨fun idle pending => ?_, fun idle noAck queued => ?_, fun idle noAck noData => ?_,
        fun f sending frame left => ?_, fun f sending frame done => ?_, fun waiting acked => ?_,
        fun waiting silent below => ?_, fun waiting silent limit => ?_, fun failed => ?_⟩⟩
    · exact leadsTo (txpStep_of_halted halted) ▸ halted
    · rw [leadsTo (txpStep_of_shutdown active stopping)]
      rfl
    · obtain ⟨p, pending⟩ := Option.isSome_iff_exists.mp pending
      rw [leadsTo (txpStep_of_pendingAck running idle pending)]
      exact ⟨rfl, rfl⟩
    · obtain ⟨d, rest, queued⟩ := List.exists_cons_of_ne_nil queued
      rw [leadsTo (txpStep_of_descriptor running idle noAck queued)]
      exact ⟨rfl, rfl⟩
    · exact leadsTo (txpStep_of_noWork running idle noAck noData) ▸ idle
    · have range := (inv.transmit.cursor f sending frame).index
      exact txpStep_txState_of_wireLeft h running sending frame range left
    · rw [leadsTo (txpStep_of_wireDone running sending frame done)]
      exact endTransmission_txState _
    · rw [leadsTo (txpStep_of_ackFlag running waiting acked)]
      rfl
    · rw [leadsTo (txpStep_of_timerRuns running waiting silent ((State.timerExpires_eq_false _).mpr below))]
      exact waiting
    · have noWrap := inv.retry_noWrap waiting
      exact txpStep_txState_of_timeout (s := { s with turn := .line }) h running waiting silent limit noWrap
    · exact txpStep_txState_of_failed h running failed
  · exact (step_transmitSide inv.legal inv.own h turn).imp_left State.txState_eq_of_transmitSide

end Sys2Proof.Machine

/-! PROOFS. Units that are not frames (obligation O34; R242, R243): an overflowed unit is discarded unread, and a
unit with fewer bytes than a header has no decoding, so that R241's tests discard it as undersized. -/

namespace Sys2Proof.Machine

/-! ### The rows of a unit -/

section UnitRows
variable {s : State}

theorem exec_unit (ovf : Bool) : exec (.unit ovf) s = handleHeldUnit ovf s := rfl

theorem exec_rxOverflow : exec .rxOverflow s = .next (discardUnit .overflow s) := rfl

/-- The row and the handling of the held unit agree in every state, selected or not (R241, R243). -/
theorem exec_rxUndersized : exec .rxUndersized s = handleHeldUnit false s := by
  change execRxUndersized s = handleHeldUnit false s
  unfold execRxUndersized
  split
  · next undersized =>
    obtain ⟨u, held, outcome⟩ := Option.map_eq_some_iff.mp undersized
    simp [handleHeldUnit, handleUnit, held, outcome]
  · rfl

end UnitRows

/-! ### Overflowed and undersized units -/

section Malformed
variable {s : State} {u : List Byte}

/-- The first test of R241. -/
theorem handleUnit_of_overflow : handleUnit u true s = discardUnit .overflow s := rfl

/-- R143: no frame is shorter than its header. -/
theorem decodeFrame_eq_none_of_short (short : u.length < headerBytes) : decodeFrame u = none := by
  rw [← Option.isNone_iff_eq_none, ← Option.not_isSome, decodeFrame_isSome, decide_eq_false short.not_ge,
    Bool.not_false]

theorem State.unitOutcome_of_short (short : u.length < headerBytes) : s.unitOutcome u = .undersized := by
  rw [State.unitOutcome, decodeFrame_eq_none_of_short short]

/-- The second test of R241. -/
theorem handleUnit_of_short (short : u.length < headerBytes) :
    handleUnit u false s = discardUnit .undersized s := by
  simp [handleUnit, State.unitOutcome_of_short short]

/-- The buffer holds at least a header, so a length short of one is within the capacity (R23). -/
theorem handleHeldUnit_of_short (short : s.rxLen < headerBytes) :
    handleHeldUnit false s = .next (discardUnit .undersized s) := by
  have within : s.rxLen ≤ s.cfg.rxBufBytes := short.le.trans (Nat.le_add_right _ _)
  have unitShort : (s.rxBuf.readRun 0 s.rxLen).length < headerBytes :=
    (State.heldUnit_length (State.heldUnit_eq within)).trans_lt short
  rw [handleHeldUnit_eq within, handleUnit_of_short unitShort]

end Malformed

/-- Settles O34: the first two of R241's tests. -/
theorem malformedUnitsDiscarded : Obligations.MalformedUnitsDiscarded := by
  intro s
  refine ⟨exec_rxOverflow, fun within => ?_, fun short => ⟨?_, ?_⟩⟩
  · rw [exec_unit, handleHeldUnit_eq within, handleUnit_of_overflow, exec_rxOverflow]
  · rw [exec_rxUndersized]
    exact handleHeldUnit_of_short short
  · rw [exec_unit, exec_rxUndersized]

end Sys2Proof.Machine

/-! PROOFS. The codes (obligations O1 to O4; R101 to R116, R125): the decoder reads back what the encoder wrote,
and whatever it reads encodes to the same bits, one lemma for each format. -/

namespace Sys2Proof.Laws

/-! ### Decode after encode -/

/-- The statement made per constructor, for every operation. -/
theorem DecodeEncode.all : ∀ i : Instr, DecodeEncode.Statement i
  | .slot b => DecodeEncode.slot b
  | .lvlNeutral => DecodeEncode.lvlNeutral
  | .lvlHigh => DecodeEncode.lvlHigh
  | .lvlLow => DecodeEncode.lvlLow
  | .sentinel => DecodeEncode.sentinel
  | .escape => DecodeEncode.escape
  | .literal b => DecodeEncode.literal b
  | .escSentinel => DecodeEncode.escSentinel
  | .escEscape => DecodeEncode.escEscape
  | .escAny b => DecodeEncode.escAny b
  | .data s t n h p payload => DecodeEncode.data s t n h p payload
  | .ack s t n h p => DecodeEncode.ack s t n h p
  | .send dst payload => DecodeEncode.send dst payload
  | .recv => DecodeEncode.recv
  | .shutdown => DecodeEncode.shutdown
  | .reset => DecodeEncode.reset
  | .ok call => DecodeEncode.ok call
  | .wouldBlock call => DecodeEncode.wouldBlock call
  | .cancelled call => DecodeEncode.cancelled call
  | .tooLong => DecodeEncode.tooLong
  | .txstIdle => DecodeEncode.txstIdle
  | .txstSending => DecodeEncode.txstSending
  | .txstAwaitingAck => DecodeEncode.txstAwaitingAck
  | .txstFailed => DecodeEncode.txstFailed
  | .txstHalted => DecodeEncode.txstHalted
  | .rxstHunt => DecodeEncode.rxstHunt
  | .rxstData => DecodeEncode.rxstData
  | .rxstDeliver => DecodeEncode.rxstDeliver
  | .rxstHalted => DecodeEncode.rxstHalted
  | .dcNone => DecodeEncode.dcNone
  | .dcOverflow => DecodeEncode.dcOverflow
  | .dcUndersized => DecodeEncode.dcUndersized
  | .dcDestinationMismatch => DecodeEncode.dcDestinationMismatch
  | .dcSequenceMismatch => DecodeEncode.dcSequenceMismatch
  | .dcHeaderChecksum => DecodeEncode.dcHeaderChecksum
  | .dcPayloadChecksum => DecodeEncode.dcPayloadChecksum
  | .dcDuplicate => DecodeEncode.dcDuplicate
  | .checksum buf => DecodeEncode.checksum buf
  | .encode f => DecodeEncode.encode f
  | .decode u => DecodeEncode.decode u
  | .verify f expDst expSeq => DecodeEncode.verify f expDst expSeq
  | .finalize d n => DecodeEncode.finalize d n
  | .ackbuild p => DecodeEncode.ackbuild p
  | .stuff buf => DecodeEncode.stuff buf
  | .wire f => DecodeEncode.wire f
  | .txHalted x => DecodeEncode.txHalted x
  | .txHalt st => DecodeEncode.txHalt st
  | .txIdleAck => DecodeEncode.txIdleAck
  | .txIdleData => DecodeEncode.txIdleData
  | .txIdleWait => DecodeEncode.txIdleWait
  | .txseq => DecodeEncode.txseq
  | .txSent => DecodeEncode.txSent
  | .txAcked => DecodeEncode.txAcked
  | .txWait => DecodeEncode.txWait
  | .txRetransmit => DecodeEncode.txRetransmit
  | .txLimit => DecodeEncode.txLimit
  | .txFailed => DecodeEncode.txFailed
  | .rxHalted x => DecodeEncode.rxHalted x
  | .rxHalt st => DecodeEncode.rxHalt st
  | .rxDeliver => DecodeEncode.rxDeliver
  | .rxhunt => DecodeEncode.rxhunt
  | .rxdata => DecodeEncode.rxdata
  | .unstuff b => DecodeEncode.unstuff b
  | .store b => DecodeEncode.store b
  | .unitend => DecodeEncode.unitend
  | .unit ovf => DecodeEncode.unit ovf
  | .rxOverflow => DecodeEncode.rxOverflow
  | .rxUndersized => DecodeEncode.rxUndersized
  | .rxAckmatch => DecodeEncode.rxAckmatch
  | .rxAccept => DecodeEncode.rxAccept
  | .rxInvalid => DecodeEncode.rxInvalid
  | .rxDuplicate => DecodeEncode.rxDuplicate
  | .deliveryfailed => DecodeEncode.deliveryfailed

/-- Settles O1, by the constructor. -/
theorem decodeEncodeAgree : Obligations.DecodeEncodeAgree := DecodeEncode.all

/-! ### Fields put together again -/

theorem header_of_fields (w : BitVec 40) :
    w.extractLsb' 32 8 ++ w.extractLsb' 24 8 ++ w.extractLsb' 16 8 ++ w.extractLsb' 8 8 ++ w.extractLsb' 0 8 = w := by
  apply BitVec.eq_of_getLsbD_eq
  intro i hi
  simp only [BitVec.getLsbD_append, BitVec.getLsbD_extractLsb']
  grind

theorem pair_of_fields (w : BitVec 16) : w.extractLsb' 8 8 ++ w.extractLsb' 0 8 = w := by
  apply BitVec.eq_of_getLsbD_eq
  intro i hi
  simp only [BitVec.getLsbD_append, BitVec.getLsbD_extractLsb']
  grind

theorem slot_of_fields (w : BitVec 10) : w.extractLsb' 8 2 ++ w.extractLsb' 0 8 = w := by
  apply BitVec.eq_of_getLsbD_eq
  intro i hi
  simp only [BitVec.getLsbD_append, BitVec.getLsbD_extractLsb']
  grind

theorem txWord_of_fields : ∀ w : BitVec 4, BitVec.ofBool (w.getLsbD 3) ++ w.extractLsb' 0 3 = w := by decide

theorem txState_code_of_ofCode {w : BitVec 3} {st : TxState} (h : TxState.ofCode w = some st) : st.code = w := by
  have table : ∀ w : BitVec 3, ∀ st ∈ TxState.ofCode w, st.code = w := by decide
  exact table w st h

/-! ### Encode after decode -/

/-- What the decoder reads from `code` is selected and encodes to `code` again. -/
def ReadsBack (c : Cond) (code : Code) (i : Instr) : Prop :=
  c.selects i = true ∧ encode i = some code

section ReadsBack
variable {c : Cond} {i : Instr}

theorem decodeSlot_readsBack {w : BitVec 10} (h : decodeSlot w = .ok i) : ReadsBack c (.slot w) i := by
  unfold decodeSlot at h
  split at h
  · next pattern =>
    cases h
    refine ⟨rfl, ?_⟩
    rw [encode, ← pattern, slot_of_fields]
  · cases h

theorem decodeLvl_readsBack {w : BitVec 2} (h : decodeLvl w = .ok i) : ReadsBack c (.lvl w) i := by
  unfold decodeLvl at h
  split_ifs at h <;> subst_vars <;> cases h <;> exact ⟨rfl, rfl⟩

/-- The class of a wire byte is that of R104. -/
theorem decodeWbyte_readsBack (b : Byte) : ReadsBack c (.wbyte b) (decodeWbyte c.rxEsc b) := by
  unfold decodeWbyte
  split_ifs with escaped escape sentinel
  · exact ⟨by simp [Cond.selects, escaped], rfl⟩
  · exact ⟨by simp [Cond.selects, escaped], by rw [escape]; rfl⟩
  · exact ⟨by simp [Cond.selects, escaped], by rw [sentinel]; rfl⟩
  · exact ⟨by simp [Cond.selects, escape, sentinel], rfl⟩

theorem decodePairTx_readsBack {w : BitVec 16} (h : decodePairTx w = .ok i) : ReadsBack c (.wpairTx w) i := by
  unfold decodePairTx at h
  split_ifs at h <;> subst_vars <;> cases h <;> exact ⟨rfl, rfl⟩

theorem decodePairRx_readsBack {w : BitVec 16} (h : decodePairRx w = .ok i) : ReadsBack c (.wpairRx w) i := by
  unfold decodePairRx at h
  split at h
  · next pattern =>
    cases h
    refine ⟨rfl, ?_⟩
    rw [encode, ← pattern, pair_of_fields]
  · cases h

/-- An acknowledgment has no payload, so that its header is all of the unit. -/
theorem decodeHdr_readsBack (w : BitVec 40) (payload : List Byte) :
    ReadsBack c (.hdr w payload) (decodeHdr c.ackMatched w payload) := by
  unfold decodeHdr
  dsimp only
  split_ifs with acknowledgment
  · obtain ⟨matched, noPayload⟩ := Bool.and_eq_true_iff.mp acknowledgment
    exact ⟨matched, by rw [encode, header_of_fields, List.isEmpty_iff.mp noPayload]⟩
  · exact ⟨by simp [Cond.selects, acknowledgment], by rw [encode, header_of_fields]⟩

/-- Of several requests the one read is among those of the vector (R269). -/
theorem decodeHreq_readsBack {w : BitVec 4} {dst : Byte} {payload : List Byte}
    (h : decodeHreq w dst payload = .ok i) :
    c.selects i = true ∧ ∃ w' d p, encode i = some (.hreq w' d p) ∧ w' &&& w = w' := by
  have single : ∀ (w : BitVec 4) (k : Fin 4), w.getLsbD k = true → (1#4 <<< k.val) &&& w = 1#4 <<< k.val := by
    decide
  unfold decodeHreq at h
  split_ifs at h with reset shutdown send recv <;> cases h
  · exact ⟨rfl, _, _, _, rfl, single w 3 reset⟩
  · exact ⟨rfl, _, _, _, rfl, single w 2 shutdown⟩
  · exact ⟨rfl, _, _, _, rfl, single w 0 send⟩
  · exact ⟨rfl, _, _, _, rfl, single w 1 recv⟩

theorem decodeHrsp_readsBack {call : HostCall} {w : BitVec 3} (h : decodeHrsp call w = .ok i) :
    ReadsBack c (.hrsp call w) i := by
  unfold decodeHrsp at h
  split_ifs at h with ok wouldBlock cancelled tooLong <;> cases h
  · exact ⟨rfl, by rw [ok]; rfl⟩
  · exact ⟨rfl, by rw [wouldBlock]; rfl⟩
  · exact ⟨rfl, by rw [cancelled]; rfl⟩
  · exact ⟨rfl, by rw [tooLong.1, tooLong.2]; rfl⟩

theorem decodeTxst_readsBack {w : BitVec 3} (h : decodeTxst w = .ok i) : ReadsBack c (.txst w) i := by
  unfold decodeTxst at h
  split at h
  all_goals cases h
  all_goals next named => exact ⟨rfl, by rw [← txState_code_of_ofCode named]; rfl⟩

theorem decodeRxst_readsBack (w : BitVec 2) : ReadsBack c (.rxst w) (decodeRxst w) := by
  have table : ∀ w : BitVec 2, encode (decodeRxst w) = some (.rxst w) := by decide
  refine ⟨?_, table w⟩
  unfold decodeRxst
  split <;> rfl

theorem decodeDcause_readsBack (w : BitVec 3) : ReadsBack c (.dcause w) (decodeDcause w) := by
  have table : ∀ w : BitVec 3, encode (decodeDcause w) = some (.dcause w) := by decide
  refine ⟨?_, table w⟩
  unfold decodeDcause
  split_ifs <;> rfl

/-- The bits of a control word of TXP are `shutdown` and the code of the state it names (R125). -/
theorem txWord_of_ofCode {w : BitVec 4} {st : TxState} (named : TxState.ofCode (w.extractLsb' 0 3) = some st) :
    BitVec.ofBool (w.getLsbD 3) ++ st.code = w := by
  rw [txState_code_of_ofCode named, txWord_of_fields]

theorem decodeTxstep_readsBack {w : BitVec 4} (h : decodeTxstep c w = .ok i) : ReadsBack c (.txstep w) i := by
  unfold decodeTxstep at h
  split at h
  · cases h
  · next named =>
    cases h
    exact ⟨rfl, by rw [encode, txWord_of_ofCode named]⟩
  · next st active named =>
    have bits := txWord_of_ofCode named
    split at h
    · next stopping =>
      cases h
      rw [stopping] at bits
      exact ⟨rfl, congrArg (some ∘ Code.txstep) bits⟩
    · next running =>
      rw [Bool.not_eq_true] at running
      rw [running] at bits
      repeat' split at h
      all_goals cases h
      all_goals refine ⟨by simp_all [Cond.selects], ?_⟩
      all_goals exact congrArg (some ∘ Code.txstep) bits

theorem decodeRxstep_readsBack (w : BitVec 3) : ReadsBack c (.rxstep w) (decodeRxstep w) := by
  have table : ∀ w : BitVec 3, encode (decodeRxstep w) = some (.rxstep w) := by decide
  refine ⟨?_, table w⟩
  unfold decodeRxstep
  split
  · rfl
  · split_ifs
    · rfl
    · split <;> rfl

end ReadsBack

/-- Settles O2, by the format of the code. -/
theorem encodeDecodeAgree : Obligations.EncodeDecodeAgree := by
  intro c code i h
  cases code with
  | slot w => exact decodeSlot_readsBack h
  | lvl w => exact decodeLvl_readsBack h
  | wbyte b => cases h; exact decodeWbyte_readsBack b
  | wpairTx w => exact decodePairTx_readsBack h
  | wpairRx w => exact decodePairRx_readsBack h
  | hdr w payload => cases h; exact decodeHdr_readsBack w payload
  | hreq w dst payload => exact decodeHreq_readsBack h
  | hrsp call w => exact decodeHrsp_readsBack h
  | txst w => exact decodeTxst_readsBack h
  | rxst w => cases h; exact decodeRxst_readsBack w
  | dcause w => cases h; exact decodeDcause_readsBack w
  | txstep w => exact decodeTxstep_readsBack h
  | rxstep w => cases h; exact decodeRxstep_readsBack w

/-! ### Fixed words and reserved codes -/

/-- Settles O3: the decoder runs on each word. -/
theorem specWordsDecode : Obligations.SpecWordsDecode := by
  unfold Obligations.SpecWordsDecode
  decide

/-- No state has a code above 4 (R115). -/
theorem txState_ofCode_reserved {w : BitVec 3} (reserved : 5 ≤ w.toNat) : TxState.ofCode w = none := by
  have table : ∀ w : BitVec 3, 5 ≤ w.toNat → TxState.ofCode w = none := by decide
  exact table w reserved

/-- Settles O4, code by code; only the control word of TXP depends on the conditions, and not for these codes. -/
theorem reservedCodesRefused : Obligations.ReservedCodesRefused := by
  intro c
  refine ⟨rfl, fun call w reserved => ?_, rfl, fun w reserved => ?_, fun w reserved => ?_, fun _ _ => rfl,
    fun w noSentinel noEscape => ?_, fun w noSlot => ?_⟩
  · have table : ∀ call ∈ [HostCall.send, .recv], ∀ w : BitVec 3, 4 ≤ w.toNat →
        decodeHrsp call w = .error .answerReserved := by decide
    exact table call (by cases call <;> simp) w reserved
  · change decodeTxst w = _
    rw [decodeTxst, txState_ofCode_reserved reserved]
  · have field : (w.extractLsb' 0 3).toNat = w.toNat % 8 := by simp [BitVec.extractLsb'_toNat]
    change decodeTxstep c w = _
    rw [decodeTxstep, txState_ofCode_reserved (field ▸ reserved)]
  · change decodePairTx w = _
    rw [decodePairTx, if_neg noSentinel, if_neg noEscape]
  · have field : (w.extractLsb' 8 2).toNat = w.toNat / 256 := by
      rw [BitVec.extractLsb'_toNat, Nat.shiftRight_eq_div_pow]
      omega
    change decodeSlot w = _
    rw [decodeSlot, if_neg]
    intro pattern
    rw [pattern] at field
    exact noSlot field.symm

end Sys2Proof.Laws

/-! PROOFS. What each agent's step writes (obligations O5, O12, O20, O54, O57, O58, O60; R48, R80, R210, R240): the
rows do their path's step, and a step is its state again but for the registers its agent owns. -/

namespace Sys2Proof.Machine

/-! ### The state-code rows do their path's step (R115, R116) -/

section StateCodeRows
variable (s : State)

@[simp] theorem exec_txstIdle : exec .txstIdle s = txpStep s := rfl

@[simp] theorem exec_txstSending : exec .txstSending s = txpStep s := rfl

@[simp] theorem exec_txstAwaitingAck : exec .txstAwaitingAck s = txpStep s := rfl

@[simp] theorem exec_txstFailed : exec .txstFailed s = txpStep s := rfl

@[simp] theorem exec_txstHalted : exec .txstHalted s = txpStep s := rfl

@[simp] theorem exec_rxstHunt : exec .rxstHunt s = rxpStep s := rfl

@[simp] theorem exec_rxstData : exec .rxstData s = rxpStep s := rfl

@[simp] theorem exec_rxstDeliver : exec .rxstDeliver s = rxpStep s := rfl

@[simp] theorem exec_rxstHalted : exec .rxstHalted s = rxpStep s := rfl

theorem exec_deliveryfailed :
    exec .deliveryfailed s = orDispatched (s.txIn .failed) (reportFailure s) (.next s) := rfl

end StateCodeRows

/-- Settles O20: every row is its path's step; the report is raised in `Failed` alone. -/
theorem rowsDoTheirPathsStep : Obligations.RowsDoTheirPathsStep := by
  intro s
  refine ⟨exec_txHalted s, exec_txHalt s, ?_, exec_rxHalted s, exec_rxHalt s, ?_, fun quiet => ?_⟩
  · simp only [List.forall_mem_cons, exec_txIdleAck, exec_txIdleData, exec_txIdleWait, exec_txseq, exec_txSent,
      exec_txAcked, exec_txWait, exec_txRetransmit, exec_txLimit, exec_txFailed, exec_txstIdle, exec_txstSending,
      exec_txstAwaitingAck, exec_txstFailed, exec_txstHalted, true_and, List.not_mem_nil, false_implies,
      implies_true]
  · simp only [List.forall_mem_cons, exec_rxDeliver, exec_rxhunt, exec_rxdata, exec_rxstHunt, exec_rxstData,
      exec_rxstDeliver, exec_rxstHalted, true_and, List.not_mem_nil, false_implies, implies_true]
  · have unselected : s.txIn .failed = false := by
      rw [← Bool.not_eq_true, State.txIn_iff]
      rcases quiet with active | stopping <;> simp_all
    rw [exec_deliveryfailed, unselected, orDispatched_false]

/-- Settles O54: the rows are their path's step, which cancellation and the halt decide. -/
theorem haltRows : Obligations.HaltRows := by
  intro s
  refine ⟨fun st stopping state active => ?_, fun st stopping state active => ?_, fun halted => ?_, fun halted => ?_⟩
  · rw [exec_txHalt, txpStep_of_shutdown (state ▸ active) stopping]
    rfl
  · rw [exec_rxHalt, rxpStep_of_shutdown (state ▸ active) stopping]
    rfl
  · rw [exec_rxHalted, rxpStep_of_halted halted]
  · rw [exec_txHalted, txpStep_of_halted halted]

/-- Settles O57: each path's first step under `shutdown` halts it, unless it is halted already. -/
theorem shutdownHaltsBothPaths : Obligations.ShutdownHaltsBothPaths := by
  intro s
  have rxHalts : rxpStep { s with shutdown := true } = .next { s with shutdown := true, rxState := .halted } := by
    by_cases halted : s.rxState = .halted
    · exact (rxpStep_of_halted (s := { s with shutdown := true }) halted).trans (by rw [← halted])
    · exact rxpStep_of_shutdown (s := { s with shutdown := true }) halted rfl
  refine ⟨rfl, { s with shutdown := true, rxState := .halted }, ?_⟩
  by_cases halted : s.txState = .halted
  · exact ⟨_, rxHalts, txpStep_of_halted (by exact halted), rfl, halted, rfl,
      fun active => absurd halted active, by rw [← halted]⟩
  · exact ⟨_, rxHalts, txpStep_of_shutdown (by exact halted) rfl, rfl, rfl, rfl, fun _ => rfl, rfl⟩

/-- Settles O58: `RESET` and power-up build their registers from one table. -/
theorem resetGivesTableValues : Obligations.ResetGivesTableValues := by
  intro s c
  refine ⟨s.resetRegisters, rfl, rfl, rfl, ?_⟩
  rintro r (rfl | rfl) <;> simp [State.resetWith]

/-! ### The step -/

/-- A step goes on under a legal configuration alone (IU6). -/
theorem legal_of_step {s t : State} (h : step s = .next t) : s.cfg.legal = true := by
  unfold step at h
  split at h
  · assumption
  · cases h

/-- A code presented for single execution runs alone and is used up (log entry 7). -/
theorem step_presented {s : State} {o : OpWord} (legal : s.cfg.legal = true) (presented : s.opPort = some o) :
    step s = runDecoded o.instr { s with opPort := none } := by
  simp [step, legal, presented]

/-- Settles O5, by whose turn it is. -/
theorem stepRunsDecoded : Obligations.StepRunsDecoded := by
  intro s i legal
  refine ⟨fun o presented word => ?_, fun own =>
    ⟨fun turn requests read => ?_, fun turn none => ?_, fun turn read => ?_, fun turn read => ?_⟩⟩
  · rw [step_presented legal presented, OpWord.instr, word]
    rfl
  · have request : s.hostInstr = .ok i := read
    rw [step_host legal own turn, hostTurn, if_neg requests, request]
  · rw [step_host legal own turn, hostTurn, if_pos none]
  · obtain rfl : decodeRxstep s.rxWord = i := Except.ok.inj read
    rw [step_rxp legal own turn, exec_decodeRxstep]
  · rw [step_txp legal own turn, exec_of_decodeTxstep read]

/-! ### What RXP writes (R48) -/

/-- `s` with all that RXP may write as in `t`. -/
def State.withReceiver (s t : State) : State :=
  { s with
    rxBuf := t.rxBuf, rxLen := t.rxLen, rxShift := t.rxShift, rxState := t.rxState, rxLowCnt := t.rxLowCnt
    rxCnt := t.rxCnt, rxBit := t.rxBit, rxEsc := t.rxEsc, rxOvf := t.rxOvf, framesReceived := t.framesReceived
    ackFlag := t.ackFlag, pendingAck := t.pendingAck, inq := t.inq, out := t.out }

/-- `t` is `s` but for RXP's writes: it raises the signal while a data frame is outstanding, posts an
acknowledgment, and adds to `inq`. -/
structure ReceiverWrites (s t : State) : Prop where
  frame : t = s.withReceiver t
  flag : s.ackFlag = true → t.ackFlag = true
  signal : t.ackFlag = true → s.ackFlag = true ∨ s.outstanding = true
  pending : t.pendingAck = s.pendingAck ∨ t.pendingAck.isSome = true
  queue : ∃ l, t.inq = s.inq ++ l

theorem ReceiverWrites.refl (s : State) : ReceiverWrites s s :=
  ⟨rfl, id, .inl, .inl rfl, [], (List.append_nil _).symm⟩

theorem ReceiverWrites.trans {s t u : State} (h : ReceiverWrites s t) (h' : ReceiverWrites t u) :
    ReceiverWrites s u where
  frame := h'.frame.trans (by rw [h.frame]; rfl)
  flag := h'.flag ∘ h.flag
  signal := by
    have outstanding : t.outstanding = s.outstanding := (congrArg State.outstanding h.frame :)
    intro raised
    exact (h'.signal raised).elim h.signal fun out => .inr (outstanding.symm.trans out)
  pending := by
    rcases h'.pending with same | posted
    · rw [same]
      exact h.pending
    · exact .inr posted
  queue := by
    obtain ⟨l, added⟩ := h.queue
    obtain ⟨l', added'⟩ := h'.queue
    exact ⟨l ++ l', by rw [added', added, List.append_assoc]⟩

section ReceiverWrites
variable {s t : State}

theorem ReceiverWrites.of_frame (frame : t = s.withReceiver t) (flag : t.ackFlag = s.ackFlag)
    (pending : t.pendingAck = s.pendingAck) (queue : t.inq = s.inq) : ReceiverWrites s t :=
  ⟨frame, fun h => flag.trans h, fun h => .inl (flag.symm.trans h), .inl pending, [],
    by rw [queue, List.append_nil]⟩

theorem storeByte_writes (b : Byte) (s : State) : ReceiverWrites s (storeByte b s) := by
  unfold storeByte
  split_ifs <;> exact .of_frame rfl rfl rfl rfl

theorem discardUnit_writes (c : DiscardCause) (s : State) : ReceiverWrites s (discardUnit c s) :=
  .of_frame rfl rfl rfl rfl

theorem signalAck_writes (outstanding : s.outstanding = true) : ReceiverWrites s (signalAck s) :=
  ⟨rfl, fun _ => rfl, fun _ => .inr outstanding, .inl rfl, [], (List.append_nil _).symm⟩

theorem acceptFrame_writes (f : Frame) (s : State) : ReceiverWrites s (acceptFrame f s) := by
  unfold acceptFrame
  dsimp only
  split_ifs
  · exact ⟨rfl, id, .inl, .inr rfl, [], (List.append_nil _).symm⟩
  · exact ⟨rfl, id, .inl, .inr rfl, [asData f], rfl⟩

theorem dropDuplicate_writes (f : Frame) (s : State) : ReceiverWrites s (dropDuplicate f s) := by
  unfold dropDuplicate
  split_ifs
  · exact ⟨rfl, id, .inl, .inr rfl, [], (List.append_nil _).symm⟩
  · exact discardUnit_writes _ s

/-- What the handling of a unit can be (R241). -/
theorem handleUnit_cases (u : List Byte) (ovf : Bool) (s : State) :
    (∃ c, handleUnit u ovf s = discardUnit c s) ∨
    s.ackMatches u = true ∧ handleUnit u ovf s = signalAck s ∨
    (∃ f, s.unitOutcome u = .accept f ∧ handleUnit u ovf s = acceptFrame f s) ∨
    ∃ f, handleUnit u ovf s = dropDuplicate f s := by
  unfold handleUnit
  cases ovf with
  | true => exact .inl ⟨_, rfl⟩
  | false =>
    cases outcome : s.unitOutcome u with
    | undersized => exact .inl ⟨_, rfl⟩
    | ackMatch => exact .inr (.inl ⟨State.unitOutcome_ackMatch outcome, rfl⟩)
    | accept f => exact .inr (.inr (.inl ⟨f, rfl, rfl⟩))
    | duplicate f => exact .inr (.inr (.inr ⟨f, rfl⟩))
    | invalid c => exact .inl ⟨_, rfl⟩

theorem handleUnit_writes (u : List Byte) (ovf : Bool) (s : State) : ReceiverWrites s (handleUnit u ovf s) := by
  obtain ⟨c, result⟩ | ⟨matched, result⟩ | ⟨f, -, result⟩ | ⟨f, result⟩ := handleUnit_cases u ovf s
  all_goals rw [result]
  · exact discardUnit_writes c s
  · exact signalAck_writes (State.ackMatches_outstanding matched)
  · exact acceptFrame_writes f s
  · exact dropDuplicate_writes f s

/-- R164: the end of a unit clears the mark and handles the unit held. -/
theorem endUnit_eq_next (h : endUnit s = .next t) :
    ∃ u, s.heldUnit = some u ∧ t = handleUnit u s.rxOvf { s with rxOvf := false } := by
  unfold endUnit handleHeldUnit at h
  split at h
  · next u held =>
    cases h
    exact ⟨u, held, rfl⟩
  · cases h

theorem endUnit_writes (h : endUnit s = .next t) : ReceiverWrites s t := by
  obtain ⟨u, -, rfl⟩ := endUnit_eq_next h
  have cleared : ReceiverWrites s { s with rxOvf := false } := .of_frame rfl rfl rfl rfl
  exact cleared.trans (handleUnit_writes u _ _)

theorem unstuffByte_writes {b : Byte} (h : unstuffByte b s = .next t) : ReceiverWrites s t := by
  unfold unstuffByte at h
  split_ifs at h
  · cases h
    have disarmed : ReceiverWrites s { s with rxEsc := false } := .of_frame rfl rfl rfl rfl
    exact disarmed.trans (storeByte_writes b _)
  · cases h
    exact .of_frame rfl rfl rfl rfl
  · exact endUnit_writes h
  · cases h
    exact storeByte_writes b s

theorem huntSample_writes (v : Int) (s : State) : ReceiverWrites s (huntSample v s) := by
  unfold huntSample
  split_ifs <;> exact .of_frame rfl rfl rfl rfl

/-- `s` with a sample of level `bit` shifted in, one tick on (R189). -/
def State.sampled (s : State) (bit : Bool) : State :=
  { s with rxCnt := s.rxCnt + 1, rxShift := shiftIn s.rxShift bit, rxBit := s.rxBit + 1 }

/-- What `RXDATA` does with a sample: it counts, takes a bit, or completes the byte (R189 to R191). -/
theorem dataSample_eq (v : Int) (s : State) : dataSample v s =
    if s.rxCnt + 1 = s.samplePoint then
      if s.rxBit + 1 = bitsPerByte then
        unstuffByte (shiftIn s.rxShift (isHigh s.cfg v))
          { s.sampled (isHigh s.cfg v) with rxState := .hunt, rxLowCnt := 0 }
      else .next (s.sampled (isHigh s.cfg v))
    else .next { s with rxCnt := s.rxCnt + 1 } := rfl

theorem dataSample_writes {v : Int} (h : dataSample v s = .next t) : ReceiverWrites s t := by
  rw [dataSample_eq] at h
  split_ifs at h
  · refine ReceiverWrites.trans ?_ (unstuffByte_writes h)
    exact .of_frame rfl rfl rfl rfl
  · cases h
    exact .of_frame rfl rfl rfl rfl
  · cases h
    exact .of_frame rfl rfl rfl rfl

/-- R247: without room nothing changes; with room the held frame enters `inq`. -/
theorem deliverHeld_eq_next (h : deliverHeld s = .next t) :
    full s.cfg s.inq = true ∧ t = s ∨
      full s.cfg s.inq = false ∧ ∃ u f, s.heldUnit = some u ∧ decodeFrame u = some f ∧
        t = { s with inq := s.inq ++ [asData f], rxLen := 0, rxState := .hunt, rxLowCnt := 0 } := by
  unfold deliverHeld at h
  split at h
  · next noRoom =>
    cases h
    exact .inl ⟨noRoom, rfl⟩
  · next room =>
    split at h
    · cases h
    · next u held =>
      split at h
      · cases h
      · next f decoded =>
        cases h
        exact .inr ⟨Bool.eq_false_of_not_eq_true room, u, f, held, decoded, rfl⟩

theorem deliverHeld_writes (h : deliverHeld s = .next t) : ReceiverWrites s t := by
  obtain ⟨-, rfl⟩ | ⟨-, u, f, -, -, rfl⟩ := deliverHeld_eq_next h
  · exact .refl t
  · exact ⟨rfl, id, .inl, .inl rfl, [asData f], rfl⟩

/-- What RXP's step can be (R240). -/
theorem rxpStep_cases (h : rxpStep s = .next t) :
    s.rxState = .halted ∧ t = s ∨
    s.rxState ≠ .halted ∧ s.shutdown = true ∧ t = s.haltRx ∨
    s.shutdown = false ∧ s.rxState = .hunt ∧ t = huntSample s.lineIn s ∨
    s.shutdown = false ∧ s.rxState = .data ∧ dataSample s.lineIn s = .next t ∨
    s.shutdown = false ∧ s.rxState = .deliver ∧ deliverHeld s = .next t := by
  by_cases halted : s.rxState = .halted
  · rw [rxpStep_of_halted halted] at h
    cases h
    exact .inl ⟨halted, rfl⟩
  cases running : s.shutdown with
  | true =>
    rw [rxpStep_of_shutdown halted running] at h
    cases h
    exact .inr (.inl ⟨halted, rfl, rfl⟩)
  | false =>
    refine .inr (.inr ?_)
    cases state : s.rxState with
    | hunt =>
      rw [rxpStep_of_hunt running state] at h
      cases h
      exact .inl ⟨rfl, rfl, rfl⟩
    | data =>
      rw [rxpStep_of_data running state] at h
      exact .inr (.inl ⟨rfl, rfl, h⟩)
    | deliver =>
      rw [rxpStep_of_deliver running state] at h
      exact .inr (.inr ⟨rfl, rfl, h⟩)
    | halted => exact absurd state halted

/-- RXP's step writes what RXP owns and nothing else (R48). -/
theorem rxpStep_writes (h : rxpStep s = .next t) : ReceiverWrites s t := by
  obtain ⟨-, rfl⟩ | ⟨-, -, rfl⟩ | ⟨-, -, rfl⟩ | ⟨-, -, sampled⟩ | ⟨-, -, delivered⟩ := rxpStep_cases h
  · exact .refl t
  · exact .of_frame rfl rfl rfl rfl
  · exact huntSample_writes _ s
  · exact dataSample_writes sampled
  · exact deliverHeld_writes delivered

end ReceiverWrites

/-! ### What TXP writes (R48) -/

/-- `s` with all that TXP may write as in `t`. -/
def State.withTransmitter (s t : State) : State :=
  { s with
    cur := t.cur, curIsAck := t.curIsAck, txState := t.txState, framesSent := t.framesSent, retry := t.retry
    ackTimer := t.ackTimer, txWidx := t.txWidx, txPhase := t.txPhase, txCnt := t.txCnt, txBit := t.txBit
    lineOut := t.lineOut, failSticky := t.failSticky, ackFlag := t.ackFlag, pendingAck := t.pendingAck
    outq := t.outq, out := t.out }

/-- `t` is `s` but for TXP's writes: it consumes the signal, takes an acknowledgment, and takes from `outq`; it
never clears the failure mark. -/
structure TransmitterWrites (s t : State) : Prop where
  frame : t = s.withTransmitter t
  flag : t.ackFlag = true → s.ackFlag = true
  pending : t.pendingAck = s.pendingAck ∨ t.pendingAck = none
  queue : ∃ l, s.outq = l ++ t.outq
  sticky : s.failSticky = true → t.failSticky = true

section TransmitterWrites
variable {s t : State}

theorem TransmitterWrites.of_frame (frame : t = s.withTransmitter t) (flag : t.ackFlag = s.ackFlag)
    (pending : t.pendingAck = s.pendingAck) (queue : t.outq = s.outq) (sticky : t.failSticky = s.failSticky) :
    TransmitterWrites s t :=
  ⟨frame, fun h => flag.symm.trans h, .inl pending, ⟨[], by rw [queue, List.nil_append]⟩,
    fun h => sticky.trans h⟩

theorem TransmitterWrites.refl (s : State) : TransmitterWrites s s := .of_frame rfl rfl rfl rfl rfl

theorem slotTick_writes (b : Byte) (s : State) : TransmitterWrites s (slotTick b s) := by
  unfold slotTick
  cases s.txPhase <;> dsimp only <;> split_ifs <;> exact .of_frame rfl rfl rfl rfl rfl

theorem endTransmission_writes (s : State) : TransmitterWrites s (endTransmission s) := by
  unfold endTransmission
  dsimp only
  split_ifs <;> exact .of_frame rfl rfl rfl rfl rfl

theorem takeAck_writes (p : PendingAck) (s : State) : TransmitterWrites s (takeAck p s) :=
  ⟨rfl, id, .inr rfl, ⟨[], rfl⟩, id⟩

theorem takeDescriptor_writes {d : SendDesc} {rest : List SendDesc} (queued : s.outq = d :: rest) :
    TransmitterWrites s (takeDescriptor d rest s) :=
  ⟨rfl, id, .inl rfl, ⟨[d], queued⟩, id⟩

theorem consumeAck_writes (waiting : s.ackFlag = true) : TransmitterWrites s (consumeAck s) :=
  ⟨rfl, fun _ => waiting, .inl rfl, ⟨[], rfl⟩, id⟩

/-- What TXP's step in `Sending` with bytes left can be (R182). -/
theorem sequencerStep_eq_next (h : sequencerStep s = .next t) :
    ∃ f b, s.cur = some f ∧ (wire f)[s.txWidx]? = some b ∧ t = slotTick b s := by
  unfold sequencerStep at h
  split at h
  · cases h
  · next f b frame byte =>
    cases h
    simp only [State.wireByte, frame] at byte
    exact ⟨f, b, frame, byte, rfl⟩
  · cases h

/-- What TXP's step in `Failed` can be (R220, R265). -/
theorem failFrame_eq_next (h : failFrame s = .next t) : ∃ f, s.cur = some f ∧
    t = (s.raiseDeliveryFailed f.destination f.sequenceNumber).resumeAfterFailure := by
  unfold failFrame reportFailure at h
  split at h
  · next f frame =>
    cases h
    exact ⟨f, frame, rfl⟩
  · cases h

/-- What TXP's step can be, rule by rule (R210). -/
inductive TxpRule (s : State) : State → Prop
  | halted (state : s.txState = .halted) : TxpRule s s
  | halt (state : s.txState ≠ .halted) (stopping : s.shutdown = true) : TxpRule s s.haltTx
  | takeAck (running : s.shutdown = false) (state : s.txState = .idle) (p : PendingAck)
      (pending : s.pendingAck = some p) : TxpRule s (Machine.takeAck p s)
  | takeDescriptor (running : s.shutdown = false) (state : s.txState = .idle) (d : SendDesc) (rest : List SendDesc)
      (noAck : s.pendingAck = none) (queued : s.outq = d :: rest) : TxpRule s (Machine.takeDescriptor d rest s)
  | noWork (running : s.shutdown = false) (state : s.txState = .idle) : TxpRule s s
  | sendByte (running : s.shutdown = false) (state : s.txState = .sending) (f : Frame) (b : Byte)
      (frame : s.cur = some f) (byte : (wire f)[s.txWidx]? = some b) : TxpRule s (slotTick b s)
  | sent (running : s.shutdown = false) (state : s.txState = .sending) (f : Frame) (frame : s.cur = some f)
      (index : s.txWidx = (wire f).length) : TxpRule s (endTransmission s)
  | acked (running : s.shutdown = false) (state : s.txState = .awaitingAck) (signal : s.ackFlag = true) :
      TxpRule s (consumeAck s)
  | wait (running : s.shutdown = false) (state : s.txState = .awaitingAck) (silent : s.ackFlag = false)
      (below : s.timerExpires = false) : TxpRule s (countTimer s)
  | retransmit (running : s.shutdown = false) (state : s.txState = .awaitingAck) (silent : s.ackFlag = false)
      (timeout : s.timerExpires = true) (left : s.retriesLeft = true) : TxpRule s (Machine.retransmit s)
  | giveUp (running : s.shutdown = false) (state : s.txState = .awaitingAck) (silent : s.ackFlag = false)
      (timeout : s.timerExpires = true) (used : s.retriesLeft = false) : TxpRule s (Machine.giveUp s)
  | failed (running : s.shutdown = false) (state : s.txState = .failed) (f : Frame) (frame : s.cur = some f) :
      TxpRule s (s.raiseDeliveryFailed f.destination f.sequenceNumber).resumeAfterFailure

theorem wireDone_eq_true (done : s.wireDone = true) : ∃ f, s.cur = some f ∧ s.txWidx = (wire f).length := by
  unfold State.wireDone at done
  split at done
  · next f frame => exact ⟨f, frame, of_decide_eq_true done⟩
  · cases done

/-- Every step of TXP is one of the rules. -/
theorem txpRule_of_txpStep (h : txpStep s = .next t) : TxpRule s t := by
  by_cases halted : s.txState = .halted
  · rw [txpStep_of_halted halted] at h
    cases h
    exact .halted halted
  cases running : s.shutdown with
  | true =>
    rw [txpStep_of_shutdown halted running] at h
    cases h
    exact .halt halted running
  | false =>
    cases state : s.txState with
    | idle =>
      cases pending : s.pendingAck with
      | some p =>
        rw [txpStep_of_pendingAck running state pending] at h
        cases h
        exact .takeAck running state p pending
      | none =>
        cases queued : s.outq with
        | nil =>
          rw [txpStep_of_noWork running state pending queued] at h
          cases h
          exact .noWork running state
        | cons d rest =>
          rw [txpStep_of_descriptor running state pending queued] at h
          cases h
          exact .takeDescriptor running state d rest pending queued
    | sending =>
      rw [txpStep_of_sending running state] at h
      split at h
      · next done =>
        obtain ⟨f, frame, index⟩ := wireDone_eq_true done
        cases h
        exact .sent running state f frame index
      · obtain ⟨f, b, frame, byte, rfl⟩ := sequencerStep_eq_next h
        exact .sendByte running state f b frame byte
    | awaitingAck =>
      cases signal : s.ackFlag with
      | true =>
        rw [txpStep_of_ackFlag running state signal] at h
        cases h
        exact .acked running state signal
      | false =>
        cases timeout : s.timerExpires with
        | false =>
          rw [txpStep_of_timerRuns running state signal timeout] at h
          cases h
          exact .wait running state signal timeout
        | true =>
          cases left : s.retriesLeft with
          | true =>
            rw [txpStep_of_retriesLeft running state signal timeout left] at h
            cases h
            exact .retransmit running state signal timeout left
          | false =>
            rw [txpStep_of_retriesUsed running state signal timeout left] at h
            cases h
            exact .giveUp running state signal timeout left
    | failed =>
      rw [txpStep_of_failed running state] at h
      obtain ⟨f, frame, rfl⟩ := failFrame_eq_next h
      exact .failed running state f frame
    | halted => exact absurd state halted

/-- TXP's step writes what TXP owns and nothing else (R48). -/
theorem txpStep_writes (h : txpStep s = .next t) : TransmitterWrites s t := by
  cases txpRule_of_txpStep h with
  | halted | noWork => exact .refl s
  | takeAck _ _ p _ => exact takeAck_writes p s
  | takeDescriptor _ _ d rest _ queued => exact takeDescriptor_writes queued
  | sendByte _ _ f b _ _ => exact slotTick_writes b s
  | sent => exact endTransmission_writes s
  | acked _ _ signal => exact consumeAck_writes signal
  | halt | wait | retransmit | giveUp => exact .of_frame rfl rfl rfl rfl rfl
  | failed => exact ⟨rfl, id, .inl rfl, ⟨[], rfl⟩, fun _ => rfl⟩

end TransmitterWrites

/-! ### What the HOST writes (R48) -/

/-- `s` with all that a request other than `RESET` may write as in `t`. -/
def State.withHost (s t : State) : State :=
  { s with shutdown := t.shutdown, outq := t.outq, inq := t.inq, out := t.out }

/-- `t` is `s` but for the HOST's writes: it adds to `outq`, takes from `inq`, and sets `shutdown`. -/
structure HostWrites (s t : State) : Prop where
  frame : t = s.withHost t
  outq : ∃ l, t.outq = s.outq ++ l
  inq : ∃ l, s.inq = l ++ t.inq
  shutdown : s.shutdown = true → t.shutdown = true

section HostWrites
variable {s t : State}

theorem HostWrites.of_frame (frame : t = s.withHost t) (outq : t.outq = s.outq) (inq : t.inq = s.inq)
    (shutdown : s.shutdown = true → t.shutdown = true) : HostWrites s t :=
  ⟨frame, ⟨[], by rw [outq, List.append_nil]⟩, ⟨[], by rw [inq, List.nil_append]⟩, shutdown⟩

theorem HostWrites.refl (s : State) : HostWrites s s := .of_frame rfl rfl rfl id

theorem HostWrites.trans {u : State} (h : HostWrites s t) (h' : HostWrites t u) : HostWrites s u where
  frame := h'.frame.trans (by rw [h.frame]; rfl)
  outq := by
    obtain ⟨l, added⟩ := h.outq
    obtain ⟨l', added'⟩ := h'.outq
    exact ⟨l ++ l', by rw [added', added, List.append_assoc]⟩
  inq := by
    obtain ⟨l, taken⟩ := h.inq
    obtain ⟨l', taken'⟩ := h'.inq
    exact ⟨l ++ l', by rw [taken, taken', List.append_assoc]⟩
  shutdown := h'.shutdown ∘ h.shutdown

theorem execShutdown_writes (h : execShutdown s = .next t) : HostWrites s t := by
  cases h
  exact .of_frame rfl rfl rfl fun _ => rfl

/-- What `SEND` does (R261). -/
theorem execSend_eq (dst : Byte) (payload : List Byte) (s : State) :
    execSend dst payload s = .next
      { s with
        outq := if s.sendAnswer payload.length = .ok then s.outq ++ [{ destination := dst, payload := payload }]
          else s.outq
        out := { s.out with sendRsp := some (s.sendAnswer payload.length) } } := by
  unfold execSend
  cases answer : s.sendAnswer payload.length <;> rfl

theorem execSend_writes {dst : Byte} {payload : List Byte} (h : execSend dst payload s = .next t) :
    HostWrites s t := by
  rw [execSend_eq] at h
  cases h
  refine ⟨rfl, ?_, ⟨[], rfl⟩, id⟩
  dsimp only
  split_ifs
  · exact ⟨_, rfl⟩
  · exact ⟨[], (List.append_nil _).symm⟩

/-- What `RECV` does (R262). -/
theorem execRecv_cases (h : execRecv s = .next t) :
    s.shutdown = true ∧ t = s.answerRecv .cancelled ∨
    s.shutdown = false ∧ s.inq = [] ∧ t = s.answerRecv .wouldBlock ∨
    s.shutdown = false ∧ ∃ f rest, s.inq = f :: rest ∧
      t = State.answerRecv (State.showFrame { s with inq := rest } f) .ok := by
  unfold execRecv at h
  split at h
  · next stopping =>
    cases h
    exact .inl ⟨stopping, rfl⟩
  · next running =>
    rw [Bool.not_eq_true] at running
    split at h
    · next noFrame =>
      cases h
      exact .inr (.inl ⟨running, noFrame, rfl⟩)
    · next f rest queued =>
      cases h
      exact .inr (.inr ⟨running, f, rest, queued, rfl⟩)

theorem execRecv_writes (h : execRecv s = .next t) : HostWrites s t := by
  obtain ⟨-, rfl⟩ | ⟨-, -, rfl⟩ | ⟨-, f, rest, queued, rfl⟩ := execRecv_cases h
  · exact .of_frame rfl rfl rfl id
  · exact .of_frame rfl rfl rfl id
  · exact ⟨rfl, ⟨[], (List.append_nil _).symm⟩, ⟨[f], queued⟩, id⟩

/-- What the HOST's turn can be: on to RXP, `RESET`, or one of the other requests (R269). -/
theorem hostTurn_cases (h : hostTurn s = .next t) :
    s.hReq = 0 ∧ t = { s with turn := .rxp } ∨
    s.hReq.getLsbD 3 = true ∧ t = State.resetRegisters { s with hReq := 0, turn := .line } ∨
    ∃ q, execShutdown { s with hReq := q } = .next t ∨
      execSend s.hDst s.hPayload { s with hReq := q } = .next t ∨ execRecv { s with hReq := q } = .next t := by
  unfold hostTurn at h
  split at h
  · next none =>
    cases h
    exact .inl ⟨none, rfl⟩
  · split at h
    · next i request =>
      obtain ⟨rfl, bit⟩ | rfl | rfl | rfl := decodeHreq_cases request
      · cases h
        exact .inr (.inl ⟨bit, rfl⟩)
      · exact .inr (.inr ⟨_, .inl h⟩)
      · exact .inr (.inr ⟨_, .inr (.inl h)⟩)
      · exact .inr (.inr ⟨_, .inr (.inr h)⟩)
    · cases h

/-- The HOST's turn writes what the HOST owns, the request port and the turn, `RESET` aside (R48, R264). -/
theorem hostTurn_writes (h : hostTurn s = .next t) (noReset : s.hReq.getLsbD 3 = false) :
    ∃ q turn, HostWrites { s with hReq := q, turn := turn } t := by
  obtain ⟨-, rfl⟩ | ⟨reset, -⟩ | ⟨q, halted | sent | received⟩ := hostTurn_cases h
  · exact ⟨_, _, .refl _⟩
  · cases noReset.symm.trans reset
  · exact ⟨q, s.turn, execShutdown_writes halted⟩
  · exact ⟨q, s.turn, execSend_writes sent⟩
  · exact ⟨q, s.turn, execRecv_writes received⟩

end HostWrites

end Sys2Proof.Machine

/-! PROOFS. Who writes what in a step (obligations O12, O13, O14, O60; R48, R87, R221, R250, R267), read off what
each agent's turn writes. -/

namespace Sys2Proof.Machine

/-! ### The registers of the two paths -/

/-- The registers that RXP alone writes (R48), with the configuration; all else as after reset. -/
def State.receiveSide (s : State) : State :=
  { State.resetWith s.cfg with
    framesReceived := s.framesReceived
    rxBuf := s.rxBuf
    rxLen := s.rxLen
    rxShift := s.rxShift
    rxState := s.rxState
    rxLowCnt := s.rxLowCnt
    rxCnt := s.rxCnt
    rxBit := s.rxBit
    rxEsc := s.rxEsc
    rxOvf := s.rxOvf }

section Sides
variable {s t : State}

theorem State.fields_of_transmitSide (h : t.transmitSide = s.transmitSide) :
    t.cur = s.cur ∧ t.curIsAck = s.curIsAck ∧ t.txState = s.txState ∧ t.framesSent = s.framesSent ∧
      t.retry = s.retry ∧ t.ackTimer = s.ackTimer ∧ t.txWidx = s.txWidx ∧ t.txPhase = s.txPhase ∧
      t.txCnt = s.txCnt ∧ t.txBit = s.txBit ∧ t.lineOut = s.lineOut ∧ t.failSticky = s.failSticky :=
  ⟨(congrArg State.cur h :), (congrArg State.curIsAck h :), (congrArg State.txState h :), (congrArg State.framesSent h :),
    (congrArg State.retry h :), (congrArg State.ackTimer h :), (congrArg State.txWidx h :), (congrArg State.txPhase h :),
    (congrArg State.txCnt h :), (congrArg State.txBit h :), (congrArg State.lineOut h :), (congrArg State.failSticky h :)⟩

theorem State.fields_of_receiveSide (h : t.receiveSide = s.receiveSide) :
    t.framesReceived = s.framesReceived ∧ t.rxBuf = s.rxBuf ∧ t.rxLen = s.rxLen ∧ t.rxShift = s.rxShift ∧
      t.rxState = s.rxState ∧ t.rxLowCnt = s.rxLowCnt ∧ t.rxCnt = s.rxCnt ∧ t.rxBit = s.rxBit ∧
      t.rxEsc = s.rxEsc ∧ t.rxOvf = s.rxOvf :=
  ⟨(congrArg State.framesReceived h :), (congrArg State.rxBuf h :), (congrArg State.rxLen h :), (congrArg State.rxShift h :),
    (congrArg State.rxState h :), (congrArg State.rxLowCnt h :), (congrArg State.rxCnt h :), (congrArg State.rxBit h :),
    (congrArg State.rxEsc h :), (congrArg State.rxOvf h :)⟩

/-! ### One step, by whose turn it is -/

/-- What a step writes in each turn, `RESET` aside (R48). -/
inductive TurnWrites (s t : State) : Prop
  | line (turn : s.turn = .line) (begun : t = s.beginTick)
  | host (turn : s.turn = .host) (q : BitVec 4) (next : Turn)
      (writes : HostWrites { s with hReq := q, turn := next } t)
  | reset (turn : s.turn = .host) (bit : s.hReq.getLsbD 3 = true)
      (cleared : t = State.resetRegisters { s with hReq := 0, turn := .line })
  | rxp (turn : s.turn = .rxp) (step : rxpStep { s with turn := .txp } = .next t)
      (writes : ReceiverWrites { s with turn := .txp } t)
  | txp (turn : s.turn = .txp) (step : txpStep { s with turn := .line } = .next t)
      (writes : TransmitterWrites { s with turn := .line } t)

theorem turnWrites_of_step (own : s.opPort = none) (h : step s = .next t) : TurnWrites s t := by
  have legal := legal_of_step h
  cases turn : s.turn with
  | line =>
    rw [step_line legal own turn] at h
    cases h
    exact .line turn rfl
  | host =>
    rw [step_host legal own turn] at h
    cases reset : s.hReq.getLsbD 3 with
    | false =>
      obtain ⟨q, next, writes⟩ := hostTurn_writes h reset
      exact .host turn q next writes
    | true =>
      have request : decodeHreq s.hReq s.hDst s.hPayload = .ok .reset := if_pos reset
      have requests : s.hReq ≠ 0 := by
        intro none
        rw [none] at reset
        cases reset
      rw [hostTurn, if_neg requests, State.hostInstr, State.hostCode, decode, request] at h
      cases h
      exact .reset turn reset rfl
  | rxp =>
    rw [step_rxp legal own turn] at h
    exact .rxp turn h (rxpStep_writes h)
  | txp =>
    rw [step_txp legal own turn] at h
    exact .txp turn h (txpStep_writes h)

/-- No turn but RXP's own writes RXP's registers, `RESET` aside (R48). -/
theorem step_receiveSide (own : s.opPort = none) (h : step s = .next t) (turn : s.turn ≠ .rxp)
    (noReset : ¬(s.turn = .host ∧ s.hReq.getLsbD 3 = true)) : t.receiveSide = s.receiveSide := by
  cases turnWrites_of_step own h with
  | line _ begun => rw [begun]; rfl
  | host _ q next writes => exact (congrArg State.receiveSide writes.frame :)
  | reset agent bit => exact absurd ⟨agent, bit⟩ noReset
  | rxp agent => exact absurd agent turn
  | txp _ _ writes => exact (congrArg State.receiveSide writes.frame :)

/-- No turn but TXP's own writes TXP's registers, `RESET` aside (R48). -/
theorem step_transmitSide_of_noReset (own : s.opPort = none) (h : step s = .next t) (turn : s.turn ≠ .txp)
    (noReset : ¬(s.turn = .host ∧ s.hReq.getLsbD 3 = true)) : t.transmitSide = s.transmitSide := by
  obtain kept | ⟨agent, bit, -⟩ := step_transmitSide (legal_of_step h) own h turn
  · exact kept
  · exact absurd ⟨agent, bit⟩ noReset

end Sides

/-- Settles O12, turn by turn. -/
theorem ownershipTable : Obligations.OwnershipTable := by
  intro s t own h
  refine ⟨fun turn noReset => ?_, fun turn noReset => ?_, fun turn => ?_, fun turn => ?_, fun turn noReset => ?_,
    fun turn => ?_⟩
  · exact State.fields_of_transmitSide (step_transmitSide_of_noReset own h turn noReset)
  · exact State.fields_of_receiveSide (step_receiveSide own h turn noReset)
  · cases turnWrites_of_step own h with
    | rxp _ _ writes =>
      exact ⟨writes.flag, writes.pending, writes.queue, (congrArg State.outq writes.frame :),
        (congrArg State.shutdown writes.frame :)⟩
    | _ agent => cases turn.symm.trans agent
  · cases turnWrites_of_step own h with
    | txp _ _ writes =>
      exact ⟨writes.flag, writes.pending, writes.queue, (congrArg State.inq writes.frame :),
        (congrArg State.shutdown writes.frame :)⟩
    | _ agent => cases turn.symm.trans agent
  · cases turnWrites_of_step own h with
    | host _ q next writes =>
      exact ⟨(congrArg State.ackFlag writes.frame :), (congrArg State.pendingAck writes.frame :), writes.outq, writes.inq,
        writes.shutdown⟩
    | reset _ bit => cases noReset.symm.trans bit
    | _ agent => cases turn.symm.trans agent
  · cases turnWrites_of_step own h with
    | line _ begun =>
      rw [begun]
      exact ⟨rfl, rfl, rfl, rfl, rfl⟩
    | _ agent => cases turn.symm.trans agent

/-- Settles O60: the LINE's turn latches the status outputs, and no other turn writes them. -/
theorem statusLatchedAtTickStart : Obligations.StatusLatchedAtTickStart := by
  intro s t own h
  refine ⟨fun turn => ?_, fun turn => ?_⟩
  · rw [step_line (legal_of_step h) own turn] at h
    cases h
    exact ⟨rfl, rfl, rfl⟩
  · cases turnWrites_of_step own h with
    | line agent => exact absurd agent turn
    | host _ q next writes => exact (congrArg State.status writes.frame :)
    | reset _ _ cleared => rw [cleared]; rfl
    | rxp _ _ writes => exact (congrArg State.status writes.frame :)
    | txp _ _ writes => exact (congrArg State.status writes.frame :)

/-- No step changes the configuration (R39; log entry 1). -/
theorem step_cfg {s t : State} (own : s.opPort = none) (h : step s = .next t) : t.cfg = s.cfg := by
  cases turnWrites_of_step own h with
  | line _ begun => rw [begun]; rfl
  | host _ q next writes => exact (congrArg State.cfg writes.frame :)
  | reset _ _ cleared => rw [cleared]; rfl
  | rxp _ _ writes => exact (congrArg State.cfg writes.frame :)
  | txp _ _ writes => exact (congrArg State.cfg writes.frame :)

@[simp] theorem slotTick_cur (b : Byte) (s : State) : (slotTick b s).cur = s.cur := by
  unfold slotTick
  cases s.txPhase <;> dsimp only <;> split_ifs <;> rfl

/-- TXP keeps the frame it works on, gives it up, or takes one where it had none (R21, R87). -/
theorem txpStep_cur {s t : State} (h : txpStep s = .next t) (empty : s.txState = .idle → s.cur = none) :
    t.cur = s.cur ∨ t.cur = none ∨ s.cur = none := by
  cases txpRule_of_txpStep h with
  | takeAck _ idle => exact .inr (.inr (empty idle))
  | takeDescriptor _ idle => exact .inr (.inr (empty idle))
  | sendByte _ _ _ b => exact .inl (slotTick_cur b s)
  | sent =>
    unfold endTransmission
    dsimp only
    split_ifs
    · exact .inr (.inl rfl)
    · exact .inl rfl
  | acked | failed => exact .inr (.inl rfl)
  | halted | halt | noWork | wait | retransmit | giveUp => exact .inl rfl

/-- A step keeps the frame that `cur` holds, gives it up, or takes one where there was none (R21, R87). -/
theorem step_cur {s t : State} (inv : EndpointInv s) (h : step s = .next t) :
    t.cur = s.cur ∨ t.cur = none ∨ s.cur = none := by
  cases turnWrites_of_step inv.own h with
  | line _ begun => rw [begun]; exact .inl rfl
  | host _ q next writes => exact .inl (congrArg State.cur writes.frame :)
  | reset _ _ cleared => rw [cleared]; exact .inr (.inl rfl)
  | rxp _ _ writes => exact .inl (congrArg State.cur writes.frame :)
  | txp _ step => exact txpStep_cur (s := { s with turn := .line }) step fun idle => (inv.transmit.idle idle).1

/-- Settles O13: a frame in `cur` stays as it is until `cur` is given up. -/
theorem heldFrameImmutable : Obligations.HeldFrameImmutable := by
  intro s t inv h
  refine ⟨step_cfg inv.own h, fun f g held kept => ?_⟩
  obtain same | gone | empty := step_cur inv h
  · exact Option.some.inj (held.symm.trans (same.symm.trans kept))
  · cases gone.symm.trans kept
  · cases empty.symm.trans held

/-- Settles O14: a halted path's own step is the identity, and no other turn but `RESET` writes its registers. -/
theorem haltedUntilReset : Obligations.HaltedUntilReset := by
  intro s t inv h noReset
  refine ⟨fun halted => ?_, fun halted => ?_, fun stopping => ?_, fun failed => ?_⟩
  · have neutral : s.lineOut = .neutral := inv.transmit.rest (by simp [halted])
    by_cases turn : s.turn = .txp
    · rw [step_txp inv.legal inv.own turn, txpStep_of_halted (by exact halted)] at h
      cases h
      exact ⟨halted, neutral, rfl⟩
    · obtain ⟨cur, -, state, -, -, -, -, -, -, -, line, -⟩ :=
        State.fields_of_transmitSide (step_transmitSide_of_noReset inv.own h turn noReset)
      exact ⟨state.trans halted, line.trans neutral, cur⟩
  · by_cases turn : s.turn = .rxp
    · rw [step_rxp inv.legal inv.own turn, rxpStep_of_halted (by exact halted)] at h
      cases h
      exact ⟨halted, rfl, rfl, rfl⟩
    · obtain ⟨-, buf, len, -, state, -, -, -, esc, -⟩ :=
        State.fields_of_receiveSide (step_receiveSide inv.own h turn noReset)
      exact ⟨state.trans halted, len, buf, esc⟩
  · cases turnWrites_of_step inv.own h with
    | line _ begun => rw [begun]; exact stopping
    | host _ q next writes => exact writes.shutdown stopping
    | reset turn bit => exact absurd ⟨turn, bit⟩ noReset
    | rxp _ _ writes => exact (congrArg State.shutdown writes.frame).trans stopping
    | txp _ _ writes => exact (congrArg State.shutdown writes.frame).trans stopping
  · by_cases turn : s.turn = .txp
    · rw [step_txp inv.legal inv.own turn] at h
      exact (txpStep_writes h).sticky failed
    · exact (congrArg State.failSticky (step_transmitSide_of_noReset inv.own h turn noReset)).trans failed

end Sys2Proof.Machine

/-! PROOFS. The rules are total (obligations O9, O10, O11, O17; R80, R84, R210, R240, R281, R295): from a state with
the invariant each agent's turn goes on. -/

namespace Sys2Proof.Machine

/-! ### Each agent's turn completes -/

section Completes
variable {s : State}

/-- With the cursor in its range there is a wire byte to send until all are sent (R26, R182). -/
theorem txpStep_completes (busy : s.txState = .sending ∨ s.txState = .awaitingAck ∨ s.txState = .failed →
      s.cur.isSome = true)
    (range : ∀ f, s.txState = .sending → s.cur = some f → s.txWidx ≤ (wire f).length) :
    ∃ t, txpStep s = .next t := by
  by_cases halted : s.txState = .halted
  · exact ⟨_, txpStep_of_halted halted⟩
  cases running : s.shutdown with
  | true => exact ⟨_, txpStep_of_shutdown halted running⟩
  | false =>
    cases state : s.txState with
    | idle =>
      by_cases work : s.pendingAck ≠ none ∨ s.outq ≠ []
      · obtain ⟨t, sends, -⟩ := txpStep_of_work running state work
        exact ⟨t, sends⟩
      · obtain ⟨noAck, noData⟩ := not_or.mp work
        exact ⟨s, txpStep_of_noWork running state (not_not.mp noAck) (not_not.mp noData)⟩
    | sending =>
      obtain ⟨f, frame⟩ := Option.isSome_iff_exists.mp (busy (.inl state))
      by_cases done : s.txWidx = (wire f).length
      · exact ⟨_, txpStep_of_wireDone running state frame done⟩
      · have byte := List.getElem?_eq_getElem (lt_of_le_of_ne (range f state frame) done)
        exact ⟨_, txpStep_of_wireByte running state frame byte⟩
    | awaitingAck =>
      cases signal : s.ackFlag with
      | true => exact ⟨_, txpStep_of_ackFlag running state signal⟩
      | false =>
        cases timeout : s.timerExpires with
        | false => exact ⟨_, txpStep_of_timerRuns running state signal timeout⟩
        | true =>
          cases left : s.retriesLeft with
          | true => exact ⟨_, txpStep_of_retriesLeft running state signal timeout left⟩
          | false => exact ⟨_, txpStep_of_retriesUsed running state signal timeout left⟩
    | failed =>
      obtain ⟨f, frame⟩ := Option.isSome_iff_exists.mp (busy (.inr (.inr state)))
      exact ⟨_, by rw [txpStep_of_failed running state, failFrame, reportFailure, frame, andThen_next]⟩
    | halted => exact absurd state halted

theorem dataSample_completes (v : Int) (within : s.rxLen ≤ s.cfg.rxBufBytes) : ∃ t, dataSample v s = .next t := by
  rw [dataSample_eq]
  split_ifs
  · exact unstuffByte_completes _ within
  · exact ⟨_, rfl⟩
  · exact ⟨_, rfl⟩

/-- RXP stops nowhere: the buffer is within its capacity and the unit held in `Deliver` is a frame (R23, R247). -/
theorem rxpStep_completes (within : s.rxLen ≤ s.cfg.rxBufBytes)
    (held : s.rxState = .deliver → ∃ u f, s.heldUnit = some u ∧ decodeFrame u = some f) :
    ∃ t, rxpStep s = .next t := by
  by_cases halted : s.rxState = .halted
  · exact ⟨_, rxpStep_of_halted halted⟩
  cases running : s.shutdown with
  | true => exact ⟨_, rxpStep_of_shutdown halted running⟩
  | false =>
    cases state : s.rxState with
    | hunt => exact ⟨_, rxpStep_of_hunt running state⟩
    | data =>
      rw [rxpStep_of_data running state]
      exact dataSample_completes _ within
    | deliver =>
      rw [rxpStep_of_deliver running state, deliverHeld]
      obtain ⟨u, f, unit, frame⟩ := held state
      split_ifs
      · exact ⟨_, rfl⟩
      · rw [unit]
        dsimp only
        rw [frame]
        exact ⟨_, rfl⟩
    | halted => exact absurd state halted

theorem execRecv_completes (s : State) : ∃ t, execRecv s = .next t := by
  unfold execRecv
  split
  · exact ⟨_, rfl⟩
  · split <;> exact ⟨_, rfl⟩

/-- A request vector that is not all zero holds a request (R111). -/
theorem decodeHreq_of_ne_zero {w : BitVec 4} (requests : w ≠ 0) (dst : Byte) (payload : List Byte) :
    ∃ i, decodeHreq w dst payload = .ok i := by
  have bits : ∀ w : BitVec 4, w ≠ 0 → w.getLsbD 3 = true ∨ w.getLsbD 2 = true ∨ w.getLsbD 0 = true ∨
      w.getLsbD 1 = true := by decide
  have some := bits w requests
  unfold decodeHreq
  split_ifs with reset shutdown send recv
  · exact ⟨_, rfl⟩
  · exact ⟨_, rfl⟩
  · exact ⟨_, rfl⟩
  · exact ⟨_, rfl⟩
  · exact absurd some (by tauto)

/-- The HOST's turn completes in every state: no request has a condition (R261 to R264). -/
theorem hostTurn_completes (s : State) : ∃ t, hostTurn s = .next t := by
  unfold hostTurn
  split_ifs with none
  · exact ⟨_, rfl⟩
  · obtain ⟨i, request⟩ := decodeHreq_of_ne_zero none s.hDst s.hPayload
    have read : s.hostInstr = .ok i := request
    rw [read]
    dsimp only
    obtain ⟨rfl, -⟩ | rfl | rfl | rfl := decodeHreq_cases request
    · exact ⟨_, rfl⟩
    · exact ⟨_, rfl⟩
    · exact ⟨_, execSend_eq _ _ _⟩
    · exact execRecv_completes _

theorem EndpointInv.txpStep_completes (inv : EndpointInv s) : ∃ t, txpStep s = .next t :=
  Machine.txpStep_completes inv.transmit.busy fun f sending frame => (inv.transmit.cursor f sending frame).index

/-- What the invariant says of the unit held in `Deliver`, less its validity. -/
theorem EndpointInv.heldFrame (inv : EndpointInv s) (delivering : s.rxState = .deliver) :
    ∃ u f, s.heldUnit = some u ∧ decodeFrame u = some f := by
  obtain ⟨u, f, unit, frame, -⟩ := inv.receive.held delivering
  exact ⟨u, f, unit, frame⟩

theorem EndpointInv.rxpStep_completes (inv : EndpointInv s) : ∃ t, rxpStep s = .next t :=
  Machine.rxpStep_completes inv.buffer.length inv.heldFrame

end Completes

/-- Settles O9, by whose turn it is. -/
theorem stepNeverStops : Obligations.StepNeverStops := by
  intro s inv
  cases turn : s.turn with
  | line => exact ⟨_, step_line inv.legal inv.own turn⟩
  | host =>
    rw [step_host inv.legal inv.own turn]
    exact hostTurn_completes s
  | rxp =>
    rw [step_rxp inv.legal inv.own turn]
    exact rxpStep_completes (s := { s with turn := .txp }) inv.buffer.length inv.heldFrame
  | txp =>
    rw [step_txp inv.legal inv.own turn]
    exact txpStep_completes (s := { s with turn := .line }) inv.transmit.busy fun f sending frame =>
      (inv.transmit.cursor f sending frame).index

/-! ### The selected rows -/

/-- Whatever row a state code of TXP stands for, it does TXP's step (R115; log entry 11). -/
theorem exec_of_decodeTxst {w : BitVec 3} {i : Instr} (h : decodeTxst w = .ok i) (s : State) :
    exec i s = txpStep s := by
  unfold decodeTxst at h
  split at h <;> cases h <;> rfl

/-- Whatever row a state code of RXP stands for, it does RXP's step (R116; log entry 11). -/
theorem exec_decodeRxst (w : BitVec 2) (s : State) : exec (decodeRxst w) s = rxpStep s := by
  unfold decodeRxst
  split <;> rfl

/-- Settles O10: the decoder reads rows of the path alone, and the path's step completes. -/
theorem selectedRowIsPathStep : Obligations.SelectedRowIsPathStep := by
  intro s i j
  refine ⟨fun row code => ?_, fun row code => ?_⟩
  · have codeRow := exec_of_decodeTxst code s
    exact ⟨exec_of_decodeTxstep row s, codeRow, fun inv => codeRow ▸ inv.txpStep_completes⟩
  · obtain rfl : decodeRxstep (BitVec.ofBool s.shutdown ++ s.rxState.code) = i := Except.ok.inj row
    obtain rfl : decodeRxst s.rxState.code = j := Except.ok.inj code
    have codeRow := exec_decodeRxst s.rxState.code s
    exact ⟨exec_decodeRxstep _ s, codeRow, fun inv => codeRow ▸ inv.rxpStep_completes⟩

/-- Settles O11: each row is its path's step by definition, and that step completes. -/
theorem stateCodeRowsComplete : Obligations.StateCodeRowsComplete := by
  intro s inv
  obtain ⟨t, sends⟩ := inv.txpStep_completes
  obtain ⟨u, receives⟩ := inv.rxpStep_completes
  refine ⟨⟨t, sends, ?_⟩, u, receives, ?_⟩
  · simp only [List.forall_mem_cons, exec_txstIdle, exec_txstSending, exec_txstAwaitingAck, exec_txstFailed,
      exec_txstHalted, sends, true_and, List.not_mem_nil, false_implies, implies_true]
  · simp only [List.forall_mem_cons, exec_rxstHunt, exec_rxstData, exec_rxstDeliver, exec_rxstHalted, receives,
      true_and, List.not_mem_nil, false_implies, implies_true]

/-! ### The signal -/

/-- Settles O17: RXP's turn leaves TXP waiting, and TXP looks at the signal before the timer. -/
theorem signalWakesInSameTick : Obligations.SignalWakesInSameTick := by
  intro s u inv turn waiting running raised signal
  rw [step_rxp inv.legal inv.own turn] at raised
  have frame := (rxpStep_writes raised).frame
  have timer : u.ackTimer = s.ackTimer := (congrArg State.ackTimer frame :)
  have state : u.txState = .awaitingAck := (congrArg State.txState frame :).trans waiting
  have notStopped : u.shutdown = false := (congrArg State.shutdown frame :).trans running
  have legal : u.cfg.legal = true := (congrArg (fun s => s.cfg.legal) frame :).trans inv.legal
  have own : u.opPort = none := (congrArg State.opPort frame :).trans inv.own
  have next : u.turn = .txp := (congrArg State.turn frame :)
  refine ⟨consumeAck { u with turn := .line }, ?_, rfl, rfl, rfl, rfl, timer⟩
  rw [step_txp legal own next]
  exact txpStep_of_ackFlag (s := { u with turn := .line }) notStopped state signal

end Sys2Proof.Machine

/-! PROOFS. The invariant of the registers (obligations O7, O8): each part of `EndpointInv` reads one agent's
registers, so a turn has to restore only what its own agent writes (R48). -/

namespace Sys2Proof.Machine

/-! ### Which registers each part of the invariant reads -/

section Parts
variable {s t : State}

theorem BufferSound.of_receiveSide (same : t.receiveSide = s.receiveSide) (h : BufferSound s) : BufferSound t := by
  have kept : BufferSound s.receiveSide := ⟨h.canonical, h.within, h.length, h.overflow⟩
  rw [← same] at kept
  exact ⟨kept.canonical, kept.within, kept.length, kept.overflow⟩

/-- The receive path's part of the invariant reads RXP's registers, and `shutdown` where RXP is halted. -/
theorem ReceiveSound.of_receiveSide (same : t.receiveSide = s.receiveSide)
    (shutdown : s.shutdown = true → t.shutdown = true) (h : ReceiveSound s) : ReceiveSound t := by
  have kept : ReceiveSound { s.receiveSide with shutdown := t.shutdown } :=
    ⟨h.dwell, h.bits, h.position, h.count, h.held, fun halted => shutdown (h.halt halted), h.unmarked⟩
  rw [← same] at kept
  exact ⟨kept.dwell, kept.bits, kept.position, kept.count, kept.held, kept.halt, kept.unmarked⟩

/-- The transmit path's part of the invariant reads TXP's registers, `shutdown` where TXP is halted, and the signal,
which is raised only while a data frame is outstanding. -/
theorem TransmitSound.of_transmitSide (same : t.transmitSide = s.transmitSide)
    (shutdown : s.shutdown = true → t.shutdown = true)
    (flag : t.ackFlag = true → s.ackFlag = true ∨ s.outstanding = true) (h : TransmitSound s) : TransmitSound t := by
  have kept : TransmitSound { s.transmitSide with ackFlag := t.ackFlag, shutdown := t.shutdown } :=
    ⟨h.busy, h.idle, h.waiting, h.tag, h.own, h.number,
      fun f sending frame =>
        have c := h.cursor f sending frame
        ⟨c.index, c.atEnd, c.bit, c.guardCnt, c.pulseCnt⟩,
      h.retries, h.retriesLeft, h.ackRetry, h.timer, h.timerLeft, h.rest,
      fun raised => (flag raised).elim h.flag .inl, fun halted => shutdown (h.halt halted)⟩
  rw [← same] at kept
  exact ⟨kept.busy, kept.idle, kept.waiting, kept.tag, kept.own, kept.number,
    fun f sending frame =>
      have c := kept.cursor f sending frame
      ⟨c.index, c.atEnd, c.bit, c.guardCnt, c.pulseCnt⟩,
    kept.retries, kept.retriesLeft, kept.ackRetry, kept.timer, kept.timerLeft, kept.rest, kept.flag, kept.halt⟩

/-- What leaves the registers of both paths alone keeps the invariant as soon as the queues are sound. -/
theorem EndpointInv.of_sides (inv : EndpointInv s) (transmit : t.transmitSide = s.transmitSide)
    (receive : t.receiveSide = s.receiveSide) (own : t.opPort = none) (queues : QueuesSound t)
    (flag : t.ackFlag = true → s.ackFlag = true) (shutdown : s.shutdown = true → t.shutdown = true) :
    EndpointInv t where
  legal := (congrArg (fun s => s.cfg.legal) receive :).trans inv.legal
  own := own
  buffer := inv.buffer.of_receiveSide receive
  queues := queues
  transmit := inv.transmit.of_transmitSide transmit shutdown fun raised => .inl (flag raised)
  receive := inv.receive.of_receiveSide receive shutdown

/-- The ports, the turn and the inputs to come are not read by the invariant. -/
theorem EndpointInv.of_ports (inv : EndpointInv s) (transmit : t.transmitSide = s.transmitSide)
    (receive : t.receiveSide = s.receiveSide) (own : t.opPort = none) (outq : t.outq = s.outq) (inq : t.inq = s.inq)
    (flag : t.ackFlag = s.ackFlag) (shutdown : t.shutdown = s.shutdown) : EndpointInv t := by
  have cfg : t.cfg = s.cfg := (congrArg State.cfg receive :)
  have q := inv.queues
  refine inv.of_sides transmit receive own ⟨?_, ?_, ?_, ?_⟩ (fun h => flag ▸ h) fun h => shutdown ▸ h
  · rw [outq, cfg]; exact q.outBound
  · rw [inq, cfg]; exact q.inBound
  · rw [outq, cfg]; exact q.outFits
  · rw [inq, cfg]; exact q.inbound

theorem EndpointInv.withTurn (inv : EndpointInv s) (turn : Turn) : EndpointInv { s with turn := turn } :=
  inv.of_ports rfl rfl inv.own rfl rfl rfl rfl

end Parts

/-! ### The transmit path's rules keep their part -/

section Transmit
variable {s : State} {f : Frame}

theorem TransmitSound.of_idle (state : s.txState = .idle) (cur : s.cur = none) (data : s.curIsAck = false)
    (retry : s.retry = 0) (timer : s.ackTimer ≤ s.cfg.ackTimeoutTicks) (line : s.lineOut = .neutral)
    (flag : s.ackFlag = false) : TransmitSound s := by
  constructor <;> simp_all

theorem TransmitSound.of_sending (state : s.txState = .sending) (frame : s.cur = some f)
    (tag : f.isAcknowledgment = s.curIsAck) (own : OwnFrame s.cfg f)
    (number : s.curIsAck = false → f.sequenceNumber = s.framesSent) (cursor : CursorSound s f)
    (retries : s.retry ≤ s.cfg.maxAttempts) (ackRetry : s.curIsAck = true → s.retry = 0)
    (timer : s.ackTimer ≤ s.cfg.ackTimeoutTicks) (flag : s.ackFlag = true → s.curIsAck = false) :
    TransmitSound s := by
  constructor
  case flag => exact fun raised => .inl (s.outstanding_iff.mpr ⟨.inl state, flag raised⟩)
  case retries => exact retries.trans (Nat.le_succ _)
  case ackRetry => exact ackRetry
  case timer => exact timer
  all_goals simp_all

theorem TransmitSound.of_awaitingAck (state : s.txState = .awaitingAck) (frame : s.cur = some f)
    (data : s.curIsAck = false) (tag : f.isAcknowledgment = s.curIsAck) (own : OwnFrame s.cfg f)
    (number : f.sequenceNumber = s.framesSent) (retries : s.retry ≤ s.cfg.maxAttempts)
    (timer : s.ackTimer < s.cfg.ackTimeoutTicks) (line : s.lineOut = .neutral) : TransmitSound s := by
  constructor <;> simp_all [State.outstanding] <;> omega

theorem TransmitSound.of_failed (state : s.txState = .failed) (frame : s.cur = some f) (data : s.curIsAck = false)
    (tag : f.isAcknowledgment = s.curIsAck) (own : OwnFrame s.cfg f) (number : f.sequenceNumber = s.framesSent)
    (retries : s.retry ≤ s.cfg.maxAttempts + 1) (timer : s.ackTimer ≤ s.cfg.ackTimeoutTicks)
    (line : s.lineOut = .neutral) (flag : s.ackFlag = false) : TransmitSound s := by
  constructor <;> simp_all

/-- Outside a data transmission and `Halted` the signal is down (R29, R31). -/
theorem TransmitSound.silent (h : TransmitSound s) (active : s.txState ≠ .halted) (none : s.outstanding = false) :
    s.ackFlag = false := by
  rw [← Bool.not_eq_true]
  intro raised
  rcases h.flag raised with outstanding | halted
  · cases none.symm.trans outstanding
  · exact active halted

theorem TransmitSound.silent_of_idle (h : TransmitSound s) (idle : s.txState = .idle) : s.ackFlag = false :=
  h.silent (by simp [idle]) (by simp [State.outstanding, idle])

theorem TransmitSound.silent_of_failed (h : TransmitSound s) (failed : s.txState = .failed) : s.ackFlag = false :=
  h.silent (by simp [failed]) (by simp [State.outstanding, failed])

/-- A path that is halted keeps whatever frame it holds (R211). -/
theorem TransmitSound.haltTx (h : TransmitSound s) (stopping : s.shutdown = true) : TransmitSound s.haltTx := by
  constructor
  case tag => exact h.tag
  case own => exact h.own
  case number => exact h.number
  case retries => exact h.retries
  case ackRetry => exact h.ackRetry
  case timer => exact h.timer
  case halt => exact fun _ => stopping
  all_goals simp

/-- The first guard of a unit is within the cursor's range (R26). -/
theorem CursorSound.startSending (legal : s.cfg.legal = true) (f : Frame) : CursorSound s.startSending f := by
  obtain ⟨-, -, dwell, guard, -⟩ := Config.legal_facts legal
  exact ⟨Nat.zero_le _, fun _ => ⟨rfl, rfl⟩, Nat.zero_le 7, fun _ => dwell.trans guard, fun other => absurd rfl other⟩

/-- A tick of a slot moves the cursor within its range (R26, R181). -/
theorem CursorSound.slotTick (h : CursorSound s f) (legal : s.cfg.legal = true) (left : s.txWidx < (wire f).length)
    (b : Byte) : CursorSound (slotTick b s) f := by
  obtain ⟨-, pulse, -⟩ := Config.legal_facts legal
  obtain ⟨-, -, bit, guardCnt, pulseCnt⟩ := h
  unfold Machine.slotTick
  cases phase : s.txPhase with
  | guard =>
    have count := guardCnt phase
    dsimp only
    split_ifs with last
    · exact ⟨left.le, fun done => absurd done left.ne, bit, nofun, fun _ => show 0 < s.cfg.pulseTicks by omega⟩
    · exact ⟨left.le, fun done => absurd done left.ne, bit, fun _ => lt_of_le_of_ne count last,
        fun other => absurd phase other⟩
  | start =>
    have count := pulseCnt (by simp [phase])
    dsimp only
    split_ifs with last
    · exact ⟨left.le, fun done => absurd done left.ne, Nat.zero_le 7, nofun,
        fun _ => show 0 < s.cfg.pulseTicks by omega⟩
    · refine ⟨left.le, fun done => absurd done left.ne, bit, fun guard => ?_, fun _ => lt_of_le_of_ne count last⟩
      cases phase.symm.trans guard
  | bit =>
    obtain ⟨-, -, dwell, guard, -⟩ := Config.legal_facts legal
    dsimp only
    split_ifs with more next
    · refine ⟨left.le, fun done => absurd done left.ne, bit, fun guard => ?_, fun _ => more⟩
      cases phase.symm.trans guard
    · refine ⟨left.le, fun done => absurd done left.ne, next, fun guard => ?_,
        fun _ => show 0 < s.cfg.pulseTicks by omega⟩
      cases phase.symm.trans guard
    · exact ⟨left, fun _ => ⟨rfl, rfl⟩, Nat.zero_le 7, fun _ => show 0 < s.cfg.guardTicks by omega,
        fun other => absurd rfl other⟩

theorem OwnFrame.ackbuild (c : Config) (p : PendingAck) : OwnFrame c (ackbuild p c.myId) :=
  ⟨rfl, rfl, rfl, Nat.zero_le _, fun _ => rfl⟩

theorem OwnFrame.finalize {c : Config} {d : SendDesc} (fits : d.payload.length ≤ c.maxPayload) (n : Byte) :
    OwnFrame c (finalize d c.myId n) :=
  ⟨rfl, rfl, rfl, fits, nofun⟩

/-- R212. -/
theorem TransmitSound.takeAck (h : TransmitSound s) (legal : s.cfg.legal = true) (idle : s.txState = .idle)
    (p : PendingAck) : TransmitSound (takeAck p s) := by
  obtain ⟨-, -, retry⟩ := h.idle idle
  have silent := h.silent_of_idle idle
  exact .of_sending (f := ackbuild p s.cfg.myId) rfl rfl rfl (.ackbuild _ p) nofun (.startSending (by exact legal) _)
    (retry ▸ Nat.zero_le _) (fun _ => retry) h.timer fun raised => by cases silent.symm.trans raised

/-- R213. -/
theorem TransmitSound.takeDescriptor (h : TransmitSound s) (legal : s.cfg.legal = true) {d : SendDesc}
    (fits : d.payload.length ≤ s.cfg.maxPayload) (rest : List SendDesc) :
    TransmitSound (takeDescriptor d rest s) :=
  .of_sending (f := finalize d s.cfg.myId (seqNext s.framesSent)) rfl rfl rfl (.finalize fits _) (fun _ => rfl)
    (.startSending (by exact legal) _) (Nat.zero_le _) nofun h.timer fun _ => rfl

/-- While a signal is up and TXP sends, what it sends is a data frame (R29, R31). -/
theorem TransmitSound.data_of_raised (h : TransmitSound s) (sending : s.txState = .sending)
    (raised : s.ackFlag = true) : s.curIsAck = false := by
  rcases h.flag raised with outstanding | halted
  · exact (s.outstanding_iff.mp outstanding).2
  · cases sending.symm.trans halted

/-- The registers of TXP that a tick of a slot leaves alone: all but the cursor and the line. -/
theorem slotTick_frame (b : Byte) (s : State) : slotTick b s =
    { s with
      txWidx := (slotTick b s).txWidx, txPhase := (slotTick b s).txPhase, txCnt := (slotTick b s).txCnt
      txBit := (slotTick b s).txBit, lineOut := (slotTick b s).lineOut } := by
  unfold slotTick
  cases s.txPhase <;> dsimp only <;> split_ifs <;> rfl

/-- R182. -/
theorem TransmitSound.slotTick (h : TransmitSound s) (legal : s.cfg.legal = true) (sending : s.txState = .sending)
    (frame : s.cur = some f) (left : s.txWidx < (wire f).length) (b : Byte) : TransmitSound (slotTick b s) := by
  have cursor := (h.cursor f sending frame).slotTick legal left b
  rw [slotTick_frame] at cursor ⊢
  exact .of_sending sending frame (h.tag f frame) (h.own f frame) (h.number f frame) cursor
    (h.retriesLeft (.inl sending)) h.ackRetry h.timer (h.data_of_raised sending)

/-- R215 for an acknowledgment. -/
theorem endTransmission_of_ack (acknowledgment : s.curIsAck = true) : endTransmission s =
    { s with lineOut := .neutral, cur := none, curIsAck := false, txState := .idle } :=
  if_pos acknowledgment

/-- R215 for a data frame. -/
theorem endTransmission_of_data (data : s.curIsAck = false) : endTransmission s =
    { s with lineOut := .neutral, ackTimer := 0, txState := .awaitingAck } :=
  if_neg (Bool.eq_false_iff.mp data)

/-- R183, R215. -/
theorem TransmitSound.endTransmission (h : TransmitSound s) (legal : s.cfg.legal = true)
    (sending : s.txState = .sending) (frame : s.cur = some f) : TransmitSound (endTransmission s) := by
  cases acknowledgment : s.curIsAck with
  | true =>
    have silent := h.silent (by simp [sending]) (by simp [State.outstanding, acknowledgment])
    rw [endTransmission_of_ack acknowledgment]
    exact .of_idle rfl rfl rfl (h.ackRetry acknowledgment) h.timer rfl silent
  | false =>
    obtain ⟨-, -, -, -, -, -, timeout, -⟩ := Config.legal_facts legal
    rw [endTransmission_of_data acknowledgment]
    exact .of_awaitingAck (f := f) rfl frame acknowledgment (h.tag f frame) (h.own f frame)
      (h.number f frame acknowledgment) (h.retriesLeft (.inl sending)) timeout rfl

/-- The frame that TXP waits for or has failed on, with what the invariant says of it. -/
theorem TransmitSound.awaited (h : TransmitSound s) (state : s.txState = .awaitingAck ∨ s.txState = .failed) :
    s.curIsAck = false ∧ ∃ f, s.cur = some f ∧ f.isAcknowledgment = s.curIsAck ∧ OwnFrame s.cfg f ∧
      f.sequenceNumber = s.framesSent := by
  have data := h.waiting state
  obtain ⟨f, frame⟩ := Option.isSome_iff_exists.mp (h.busy (.inr state))
  exact ⟨data, f, frame, h.tag f frame, h.own f frame, h.number f frame data⟩

/-- R216. -/
theorem TransmitSound.consumeAck (h : TransmitSound s) (waiting : s.txState = .awaitingAck) :
    TransmitSound (consumeAck s) :=
  .of_idle rfl rfl (h.waiting (.inl waiting)) rfl h.timer (h.rest (by simp [waiting])) rfl

/-- R217, below the limit. -/
theorem TransmitSound.countTimer (h : TransmitSound s) (waiting : s.txState = .awaitingAck)
    (below : s.timerExpires = false) : TransmitSound (countTimer s) := by
  obtain ⟨data, f, frame, tag, own, number⟩ := h.awaited (.inl waiting)
  exact .of_awaitingAck waiting frame data tag own number (h.retriesLeft (.inr waiting))
    (s.timerExpires_eq_false.mp below) (h.rest (by simp [waiting]))

/-- R218. -/
theorem TransmitSound.retransmit (h : TransmitSound s) (legal : s.cfg.legal = true)
    (waiting : s.txState = .awaitingAck) (left : s.retriesLeft = true) : TransmitSound (retransmit s) := by
  obtain ⟨data, f, frame, tag, own, number⟩ := h.awaited (.inl waiting)
  exact .of_sending rfl frame tag own (fun _ => number) (.startSending (by exact legal) f) (s.retriesLeft_iff.mp left)
    (fun acknowledgment => by cases data.symm.trans acknowledgment) (h.timerLeft waiting) fun _ => data

/-- R219. -/
theorem TransmitSound.giveUp (h : TransmitSound s) (waiting : s.txState = .awaitingAck) (silent : s.ackFlag = false) :
    TransmitSound (giveUp s) := by
  obtain ⟨data, f, frame, tag, own, number⟩ := h.awaited (.inl waiting)
  have count : s.retryNext ≤ s.cfg.maxAttempts + 1 :=
    (Nat.mod_le _ _).trans (Nat.succ_le_succ (h.retriesLeft (.inr waiting)))
  exact .of_failed rfl frame data tag own number count (h.timerLeft waiting) (h.rest (by simp [waiting])) silent

/-- R220. -/
theorem TransmitSound.failFrame (h : TransmitSound s) (failed : s.txState = .failed) (dst seq : Byte) :
    TransmitSound (s.raiseDeliveryFailed dst seq).resumeAfterFailure :=
  .of_idle rfl rfl (h.waiting (.inr failed)) rfl h.timer (h.rest (by simp [failed])) (h.silent_of_failed failed)

/-- TXP's step keeps the transmit path's part of the invariant (R210). -/
theorem TransmitSound.txpStep {t : State} (h : TransmitSound s) (legal : s.cfg.legal = true)
    (outFits : ∀ d ∈ s.outq, d.payload.length ≤ s.cfg.maxPayload) (step : txpStep s = .next t) : TransmitSound t := by
  cases txpRule_of_txpStep step with
  | halted | noWork => exact h
  | halt _ stopping => exact h.haltTx stopping
  | takeAck _ idle p _ => exact h.takeAck legal idle p
  | takeDescriptor _ _ d rest _ queued => exact h.takeDescriptor legal (outFits d (by simp [queued])) rest
  | sendByte _ sending f b frame byte =>
    exact h.slotTick legal sending frame (List.getElem?_eq_some_iff.mp byte).1 b
  | sent _ sending f frame _ => exact h.endTransmission legal sending frame
  | acked _ waiting _ => exact h.consumeAck waiting
  | wait _ waiting _ below => exact h.countTimer waiting below
  | retransmit _ waiting _ _ left => exact h.retransmit legal waiting left
  | giveUp _ waiting silent _ _ => exact h.giveUp waiting silent
  | failed _ failed f _ => exact h.failFrame failed _ _

/-- TXP's turn keeps the invariant. -/
theorem EndpointInv.txpStep {t : State} (inv : EndpointInv s) (step : txpStep s = .next t) : EndpointInv t := by
  have writes := txpStep_writes step
  have receive : t.receiveSide = s.receiveSide := (congrArg State.receiveSide writes.frame :)
  have cfg : t.cfg = s.cfg := (congrArg State.cfg writes.frame :)
  have inq : t.inq = s.inq := (congrArg State.inq writes.frame :)
  have shutdown : t.shutdown = s.shutdown := (congrArg State.shutdown writes.frame :)
  obtain ⟨l, outq⟩ := writes.queue
  have shorter : t.outq.length ≤ s.outq.length := by
    rw [outq, List.length_append]
    omega
  exact
    { legal := cfg ▸ inv.legal
      own := (congrArg State.opPort writes.frame :).trans inv.own
      buffer := inv.buffer.of_receiveSide receive
      queues :=
        { outBound := cfg ▸ shorter.trans inv.queues.outBound
          inBound := cfg ▸ inq ▸ inv.queues.inBound
          outFits := fun d queued => cfg ▸ inv.queues.outFits d (outq ▸ List.mem_append_right l queued)
          inbound := cfg ▸ inq ▸ inv.queues.inbound }
      transmit := inv.transmit.txpStep inv.legal inv.queues.outFits step
      receive := inv.receive.of_receiveSide receive fun stopping => shutdown.trans stopping }

end Transmit

end Sys2Proof.Machine

/-! PROOFS. The invariant of the registers, continued (obligations O7, O8): the receive path's rules, the HOST's
requests, reset, and the step. -/

namespace Sys2Proof.Machine

/-! ### The receive path's rules keep their part -/

/-- The part of the invariant that RXP's turn has to restore. -/
structure ReceiverInv (s : State) : Prop where
  legal : s.cfg.legal = true
  buffer : BufferSound s
  receive : ReceiveSound s
  inBound : s.inq.length ≤ s.cfg.queueCap
  inbound : ∀ f ∈ s.inq, InboundFrame s.cfg f

theorem EndpointInv.receiver {s : State} (inv : EndpointInv s) : ReceiverInv s :=
  ⟨inv.legal, inv.buffer, inv.receive, inv.queues.inBound, inv.queues.inbound⟩

section Receive
variable {s t : State}

theorem ReceiveSound.of_hunt (state : s.rxState = .hunt) (dwell : s.rxLowCnt ≤ s.cfg.dwellTicks) (bits : s.rxBit ≤ 8)
    (count : s.rxCnt ≤ 8 * s.cfg.pulseTicks + s.cfg.sampleOffset) : ReceiveSound s := by
  constructor <;> simp_all

/-- The sample points of a byte lie within its slot (R28). -/
theorem samplePoint_le (bits : s.rxBit < 8) : s.samplePoint ≤ 8 * s.cfg.pulseTicks + s.cfg.sampleOffset :=
  Nat.add_le_add_right (Nat.mul_le_mul_right _ bits) _

/-- R163. -/
theorem BufferSound.storeByte (h : BufferSound s) (b : Byte) : BufferSound (storeByte b s) := by
  by_cases room : s.rxLen < s.cfg.rxBufBytes
  · rw [storeByte_of_room b room]
    exact ⟨Memory.write_wf _ _ _ h.canonical, Memory.write_below _ _ _ _ h.within room, room,
      fun marked => absurd (h.overflow marked) room.ne⟩
  · rw [storeByte_of_full b (not_lt.mp room)]
    exact ⟨h.canonical, h.within, h.length, fun _ => le_antisymm h.length (not_lt.mp room)⟩

theorem ReceiverInv.storeByte (inv : ReceiverInv s) (hunting : s.rxState = .hunt) (b : Byte) :
    ReceiverInv (storeByte b s) := by
  have buffer := inv.buffer.storeByte b
  obtain ⟨legal, -, ⟨dwell, bits, -, count, -, -, -⟩, inBound, inbound⟩ := inv
  unfold Machine.storeByte at buffer ⊢
  split_ifs at buffer ⊢
  · exact ⟨legal, buffer, .of_hunt hunting dwell bits count, inBound, inbound⟩
  · exact ⟨legal, buffer, .of_hunt hunting dwell bits count, inBound, inbound⟩

theorem ReceiverInv.withEsc (inv : ReceiverInv s) (esc : Bool) : ReceiverInv { s with rxEsc := esc } :=
  have b := inv.buffer
  have r := inv.receive
  ⟨inv.legal, ⟨b.canonical, b.within, b.length, b.overflow⟩,
    ⟨r.dwell, r.bits, r.position, r.count, r.held, r.halt, r.unmarked⟩, inv.inBound, inv.inbound⟩

theorem ReceiverInv.unmarked (inv : ReceiverInv s) : ReceiverInv { s with rxOvf := false } :=
  have b := inv.buffer
  have r := inv.receive
  ⟨inv.legal, ⟨b.canonical, b.within, b.length, nofun⟩,
    ⟨r.dwell, r.bits, r.position, r.count, r.held, r.halt, fun _ => rfl⟩, inv.inBound, inv.inbound⟩

/-- The buffer released with the framer hunting: only the queue may have changed in kind (R164). -/
theorem ReceiverInv.of_released (inv : ReceiverInv s) (hunting : s.rxState = .hunt) (noMark : s.rxOvf = false)
    (same : { t with framesReceived := s.framesReceived }.receiveSide = { s with rxLen := 0 }.receiveSide)
    (inBound : t.inq.length ≤ t.cfg.queueCap) (inbound : ∀ f ∈ t.inq, InboundFrame t.cfg f) : ReceiverInv t := by
  have released : BufferSound { s with rxLen := 0 } :=
    ⟨inv.buffer.canonical, inv.buffer.within, Nat.zero_le _, fun marked => by cases noMark.symm.trans marked⟩
  have hunts : ReceiveSound { s with rxLen := 0 } :=
    .of_hunt hunting inv.receive.dwell inv.receive.bits inv.receive.count
  have b := released.of_receiveSide same
  have r := hunts.of_receiveSide (t := { t with framesReceived := s.framesReceived, shutdown := s.shutdown }) same id
  have state : t.rxState = .hunt := (congrArg State.rxState same :).trans hunting
  exact ⟨(congrArg (fun s => s.cfg.legal) same :).trans inv.legal, ⟨b.canonical, b.within, b.length, b.overflow⟩,
    .of_hunt state r.dwell r.bits r.count, inBound, inbound⟩

/-- A validated frame whose unit the buffer holds is one that `inq` may hold (R41, R245). -/
theorem InboundFrame.of_held {u : List Byte} {f : Frame} {n : Byte} (within : s.rxLen ≤ s.cfg.rxBufBytes)
    (held : s.heldUnit = some u) (decoded : decodeFrame u = some f) (valid : verify f s.cfg.myId n = true) :
    InboundFrame s.cfg (asData f) := by
  obtain ⟨here, -, header, body⟩ := verify_iff.mp valid
  have length : s.rxLen = headerBytes + f.payload.length :=
    (State.heldUnit_length held).symm.trans (decodeFrame_length decoded)
  refine ⟨rfl, here, header, body, ?_⟩
  change f.payload.length ≤ s.cfg.maxPayload
  unfold Config.rxBufBytes at within
  omega

/-- One more inbound frame where there is room (R40). -/
theorem ReceiverInv.enqueued (inv : ReceiverInv s) {f : Frame} (room : full s.cfg s.inq = false)
    (sound : InboundFrame s.cfg f) :
    (s.inq ++ [f]).length ≤ s.cfg.queueCap ∧ ∀ g ∈ s.inq ++ [f], InboundFrame s.cfg g := by
  refine ⟨?_, fun g queued => ?_⟩
  · rw [← Bool.not_eq_true, full_iff] at room
    rw [List.length_append, List.length_singleton]
    omega
  · rcases List.mem_append.mp queued with old | new
    · exact inv.inbound g old
    · exact List.mem_singleton.mp new ▸ sound

/-- R246. -/
theorem ReceiverInv.acceptFrame (inv : ReceiverInv s) (hunting : s.rxState = .hunt) (noMark : s.rxOvf = false)
    {u : List Byte} {f : Frame} (held : s.heldUnit = some u) (accepted : s.unitOutcome u = .accept f) :
    ReceiverInv (acceptFrame f s) := by
  obtain ⟨decoded, -, valid⟩ := State.unitOutcome_accept accepted
  unfold Machine.acceptFrame
  dsimp only
  split_ifs with noRoom
  · have b := inv.buffer
    have r := inv.receive
    exact ⟨inv.legal, ⟨b.canonical, b.within, b.length, b.overflow⟩,
      ⟨r.dwell, r.bits, nofun, r.count, fun _ => ⟨u, f, held, decoded, valid⟩, nofun, fun _ => noMark⟩,
      inv.inBound, inv.inbound⟩
  · obtain ⟨bound, sound⟩ := inv.enqueued (Bool.eq_false_of_not_eq_true noRoom)
      (InboundFrame.of_held inv.buffer.length held decoded valid)
    exact inv.of_released hunting noMark rfl bound sound

/-- R241: every outcome releases the buffer or keeps a validated frame in it. -/
theorem ReceiverInv.handleUnit (inv : ReceiverInv s) (hunting : s.rxState = .hunt) (noMark : s.rxOvf = false)
    {u : List Byte} (held : s.heldUnit = some u) (ovf : Bool) : ReceiverInv (handleUnit u ovf s) := by
  obtain ⟨c, result⟩ | ⟨-, result⟩ | ⟨f, accepted, result⟩ | ⟨f, result⟩ := handleUnit_cases u ovf s
  all_goals rw [result]
  · exact inv.of_released hunting noMark rfl inv.inBound inv.inbound
  · exact inv.of_released hunting noMark rfl inv.inBound inv.inbound
  · exact inv.acceptFrame hunting noMark held accepted
  · unfold dropDuplicate
    split_ifs <;> exact inv.of_released hunting noMark rfl inv.inBound inv.inbound

/-- R164. -/
theorem ReceiverInv.endUnit (inv : ReceiverInv s) (hunting : s.rxState = .hunt) (h : endUnit s = .next t) :
    ReceiverInv t := by
  obtain ⟨u, held, rfl⟩ := endUnit_eq_next h
  exact inv.unmarked.handleUnit hunting rfl held _

/-- R162. -/
theorem ReceiverInv.unstuffByte (inv : ReceiverInv s) (hunting : s.rxState = .hunt) {b : Byte}
    (h : unstuffByte b s = .next t) : ReceiverInv t := by
  unfold Machine.unstuffByte at h
  split_ifs at h
  · cases h
    exact (inv.withEsc false).storeByte hunting b
  · cases h
    exact inv.withEsc true
  · exact inv.endUnit hunting h
  · cases h
    exact inv.storeByte hunting b

/-- R187. -/
theorem ReceiverInv.huntSample (inv : ReceiverInv s) (hunting : s.rxState = .hunt) (v : Int) :
    ReceiverInv (huntSample v s) := by
  obtain ⟨legal, ⟨canonical, within, length, overflow⟩, ⟨dwell, bits, -, count, -, -, -⟩, inBound, inbound⟩ := inv
  have buffer : BufferSound (Machine.huntSample v s) := by
    unfold Machine.huntSample
    split_ifs <;> exact ⟨canonical, within, length, overflow⟩
  obtain ⟨-, pulse, -⟩ := Config.legal_facts legal
  unfold Machine.huntSample at buffer ⊢
  split_ifs at buffer ⊢
  · exact ⟨legal, buffer, .of_hunt hunting (Nat.min_le_right _ _) bits count, inBound, inbound⟩
  · refine ⟨legal, buffer, ⟨Nat.zero_le _, Nat.zero_le _, fun _ => ⟨Nat.zero_lt_succ 7, ?_⟩, Nat.zero_le _, nofun, nofun,
      nofun⟩, inBound, inbound⟩
    change 0 < (0 + 1) * s.cfg.pulseTicks + s.cfg.sampleOffset
    omega
  · exact ⟨legal, buffer, .of_hunt hunting (Nat.zero_le _) bits count, inBound, inbound⟩
  · exact ⟨legal, buffer, .of_hunt hunting (Nat.zero_le _) bits count, inBound, inbound⟩

/-- R189 to R191. -/
theorem ReceiverInv.dataSample (inv : ReceiverInv s) (receiving : s.rxState = .data) {v : Int}
    (h : dataSample v s = .next t) : ReceiverInv t := by
  obtain ⟨legal, ⟨canonical, within, length, overflow⟩, ⟨dwell, -, position, -, -, -, -⟩, inBound, inbound⟩ := inv
  obtain ⟨bits, before⟩ := position receiving
  have last := samplePoint_le bits
  obtain ⟨-, pulse, -⟩ := Config.legal_facts legal
  have notDeliver : s.rxState ≠ .deliver := by simp [receiving]
  have notHalted : s.rxState ≠ .halted := by simp [receiving]
  rw [dataSample_eq] at h
  split_ifs at h with sample byte
  · refine ReceiverInv.unstuffByte ?_ rfl h
    exact ⟨legal, ⟨canonical, within, length, overflow⟩,
      .of_hunt rfl (Nat.zero_le _) (le_of_eq byte) (sample.trans_le last), inBound, inbound⟩
  · cases h
    have more : s.rxBit + 1 < 8 := lt_of_le_of_ne bits byte
    have nextPoint : s.rxCnt + 1 < (s.rxBit + 1 + 1) * s.cfg.pulseTicks + s.cfg.sampleOffset := by
      rw [sample, State.samplePoint, Nat.succ_mul (s.rxBit + 1)]
      omega
    exact ⟨legal, ⟨canonical, within, length, overflow⟩,
      ⟨dwell, bits, fun _ => ⟨more, nextPoint⟩, sample.trans_le last, fun d => absurd d notDeliver,
        fun d => absurd d notHalted, fun d => absurd d notDeliver⟩, inBound, inbound⟩
  · cases h
    exact ⟨legal, ⟨canonical, within, length, overflow⟩,
      ⟨dwell, bits.le, fun _ => ⟨bits, lt_of_le_of_ne before sample⟩, (Nat.succ_le_of_lt before).trans last,
        fun d => absurd d notDeliver,
        fun d => absurd d notHalted, fun d => absurd d notDeliver⟩, inBound, inbound⟩

/-- R247. -/
theorem ReceiverInv.deliverHeld (inv : ReceiverInv s) (delivering : s.rxState = .deliver)
    (h : deliverHeld s = .next t) : ReceiverInv t := by
  obtain ⟨-, rfl⟩ | ⟨room, u, f, held, decoded, rfl⟩ := deliverHeld_eq_next h
  · exact inv
  · obtain ⟨u', f', held', decoded', valid⟩ := inv.receive.held delivering
    obtain rfl := Option.some.inj (held.symm.trans held')
    obtain rfl := Option.some.inj (decoded.symm.trans decoded')
    obtain ⟨bound, sound⟩ := inv.enqueued room (InboundFrame.of_held inv.buffer.length held decoded valid)
    have noMark := inv.receive.unmarked delivering
    exact ⟨inv.legal, ⟨inv.buffer.canonical, inv.buffer.within, Nat.zero_le _,
        fun marked => by cases noMark.symm.trans marked⟩,
      .of_hunt rfl (Nat.zero_le _) inv.receive.bits inv.receive.count, bound, sound⟩

/-- RXP's step keeps its part of the invariant (R240). -/
theorem ReceiverInv.rxpStep (inv : ReceiverInv s) (h : rxpStep s = .next t) : ReceiverInv t := by
  obtain ⟨-, rfl⟩ | ⟨-, stopping, rfl⟩ | ⟨-, hunting, rfl⟩ | ⟨-, receiving, sampled⟩ | ⟨-, delivering, delivered⟩ :=
    rxpStep_cases h
  · exact inv
  · have b := inv.buffer
    have r := inv.receive
    exact ⟨inv.legal, ⟨b.canonical, b.within, b.length, b.overflow⟩,
      ⟨r.dwell, r.bits, nofun, r.count, nofun, fun _ => stopping, nofun⟩, inv.inBound, inv.inbound⟩
  · exact inv.huntSample hunting _
  · exact inv.dataSample receiving sampled
  · exact inv.deliverHeld delivering delivered

/-- RXP's turn keeps the invariant. -/
theorem EndpointInv.rxpStep (inv : EndpointInv s) (h : rxpStep s = .next t) : EndpointInv t := by
  have writes := rxpStep_writes h
  have receiver := inv.receiver.rxpStep h
  have transmit := rxpStep_transmitSide h
  have cfg : t.cfg = s.cfg := (congrArg State.cfg writes.frame :)
  have outq : t.outq = s.outq := (congrArg State.outq writes.frame :)
  have shutdown : t.shutdown = s.shutdown := (congrArg State.shutdown writes.frame :)
  exact
    { legal := receiver.legal
      own := (congrArg State.opPort writes.frame :).trans inv.own
      buffer := receiver.buffer
      queues :=
        { outBound := cfg ▸ outq ▸ inv.queues.outBound
          inBound := receiver.inBound
          outFits := cfg ▸ outq ▸ inv.queues.outFits
          inbound := receiver.inbound }
      transmit := inv.transmit.of_transmitSide transmit (fun stopping => shutdown.trans stopping) writes.signal
      receive := receiver.receive }

end Receive

/-! ### The HOST's requests and reset -/

section Host
variable {s t : State}

theorem EndpointInv.resetWith {c : Config} (legal : c.legal = true) : EndpointInv (State.resetWith c) where
  legal := legal
  own := rfl
  buffer := ⟨rfl, rfl, Nat.zero_le _, nofun⟩
  queues := ⟨Nat.zero_le _, Nat.zero_le _, nofun, nofun⟩
  transmit := .of_idle rfl rfl rfl rfl (Nat.zero_le _) rfl rfl
  receive := .of_hunt rfl (Nat.zero_le _) (Nat.zero_le _) (Nat.zero_le _)

/-- `RESET` leaves what power-up leaves in all that the invariant reads (R320). -/
theorem EndpointInv.resetRegisters (legal : s.cfg.legal = true) (own : s.opPort = none) :
    EndpointInv s.resetRegisters :=
  (EndpointInv.resetWith legal).of_ports rfl rfl own rfl rfl rfl rfl

/-- `OK` answers a payload that fits where `outq` has room (R261). -/
theorem State.sendAnswer_eq_ok {n : Nat} (h : s.sendAnswer n = .ok) :
    n ≤ s.cfg.maxPayload ∧ s.outq.length < s.cfg.queueCap := by
  unfold State.sendAnswer at h
  split_ifs at h with stopping tooLong noRoom
  exact ⟨not_lt.mp tooLong, not_le.mp (mt (full_iff _ _).mpr noRoom)⟩

theorem EndpointInv.execShutdown (inv : EndpointInv s) (h : execShutdown s = .next t) : EndpointInv t := by
  cases h
  have q := inv.queues
  exact inv.of_sides rfl rfl inv.own ⟨q.outBound, q.inBound, q.outFits, q.inbound⟩ id fun _ => rfl

theorem EndpointInv.execSend (inv : EndpointInv s) {dst : Byte} {payload : List Byte}
    (h : execSend dst payload s = .next t) : EndpointInv t := by
  rw [execSend_eq] at h
  cases h
  have q := inv.queues
  refine inv.of_sides rfl rfl inv.own ⟨?_, q.inBound, ?_, q.inbound⟩ id id
  all_goals dsimp only
  all_goals split_ifs with ok
  · have room := (State.sendAnswer_eq_ok ok).2
    simpa using room
  · exact q.outBound
  · intro d queued
    rcases List.mem_append.mp queued with old | new
    · exact q.outFits d old
    · rw [List.mem_singleton.mp new]
      exact (State.sendAnswer_eq_ok ok).1
  · exact q.outFits

theorem EndpointInv.execRecv (inv : EndpointInv s) (h : execRecv s = .next t) : EndpointInv t := by
  obtain ⟨-, rfl⟩ | ⟨-, -, rfl⟩ | ⟨-, f, rest, queued, rfl⟩ := execRecv_cases h
  · exact inv.of_ports rfl rfl inv.own rfl rfl rfl rfl
  · exact inv.of_ports rfl rfl inv.own rfl rfl rfl rfl
  · have q := inv.queues
    have bound := q.inBound
    have sound := q.inbound
    rw [queued] at bound sound
    exact inv.of_sides rfl rfl inv.own
      ⟨q.outBound, (Nat.le_succ _).trans bound, q.outFits, fun g later => sound g (List.mem_cons_of_mem f later)⟩ id id

/-- The HOST's turn keeps the invariant. -/
theorem EndpointInv.hostTurn (inv : EndpointInv s) (h : hostTurn s = .next t) : EndpointInv t := by
  have requestTaken (q : BitVec 4) : EndpointInv { s with hReq := q } :=
    inv.of_ports rfl rfl inv.own rfl rfl rfl rfl
  obtain ⟨-, rfl⟩ | ⟨-, rfl⟩ | ⟨q, stopped | sent | received⟩ := hostTurn_cases h
  · exact inv.withTurn .rxp
  · exact .resetRegisters inv.legal inv.own
  · exact (requestTaken q).execShutdown stopped
  · exact (requestTaken q).execSend sent
  · exact (requestTaken q).execRecv received

end Host

/-- Settles O7, by whose turn it is. -/
theorem stepKeepsInvariant : Obligations.StepKeepsInvariant := by
  intro s t inv h
  cases turn : s.turn with
  | line =>
    rw [step_line inv.legal inv.own turn] at h
    cases h
    exact inv.of_ports rfl rfl inv.own rfl rfl rfl rfl
  | host =>
    rw [step_host inv.legal inv.own turn] at h
    exact inv.hostTurn h
  | rxp =>
    rw [step_rxp inv.legal inv.own turn] at h
    exact (inv.withTurn .txp).rxpStep h
  | txp =>
    rw [step_txp inv.legal inv.own turn] at h
    exact (inv.withTurn .line).txpStep h

/-- Settles O8: the registers after reset meet each part of the invariant. -/
theorem resetHasInvariant : Obligations.ResetHasInvariant :=
  ⟨.resetWith (by decide), fun _ legal => ⟨if_pos legal, .resetWith legal⟩⟩

end Sys2Proof.Machine

/-! PROOFS. The tick (obligations O6, O59; R80, R264, R269): the HOST's turn handles its requests one a step, RXP
reads neither the request port nor whose turn it is, and so the steps of a tick are the tick. -/

namespace Sys2Proof.Machine

/-! ### Runs and sequences -/

/-- `r` with `f` applied to the state it leaves. -/
def onNext (f : State → State) (r : Result) : Result := andThen r fun s => .next (f s)

@[simp] theorem onNext_next (f : State → State) (s : State) : onNext f (.next s) = .next (f s) := rfl

theorem andThen_onNext (f : State → State) (r : Result) (g : State → Result) :
    andThen (onNext f r) g = andThen r fun s => g (f s) :=
  andThen_assoc r _ g

theorem onNext_ite (f : State → State) (c : Prop) [Decidable c] (r r' : Result) :
    onNext f (if c then r else r') = if c then onNext f r else onNext f r' :=
  apply_ite (onNext f) c r r'

theorem andThen_congr {r : Result} {f g : State → Result} (h : ∀ t, r = .next t → f t = g t) :
    andThen r f = andThen r g := by
  cases r with
  | next t => exact h t rfl
  | fault e => rfl
  | refused e => rfl

/-- `n` steps of the machine. -/
abbrev runSteps (n : Nat) (s : State) : Result := Host.Core.run core n s

theorem runSteps_succ (n : Nat) (s : State) : runSteps (n + 1) s = andThen (step s) (runSteps n) := by
  cases first : core.step s with
  | _ =>
    simp only [runSteps, Host.Core.run, first, andThen, show step s = _ from first]
    rfl

/-! ### RXP does not read whose turn it is -/

/-- `s` in another turn. -/
def State.atTurn (turn : Turn) (s : State) : State := { s with turn := turn }

section AtTurn
variable (x : Turn) (s : State)

theorem storeByte_atTurn (b : Byte) : storeByte b (s.atTurn x) = (storeByte b s).atTurn x := by
  unfold storeByte
  rw [apply_ite (State.atTurn x)]
  rfl

theorem acceptFrame_atTurn (f : Frame) : acceptFrame f (s.atTurn x) = (acceptFrame f s).atTurn x := by
  unfold acceptFrame
  dsimp only
  rw [apply_ite (State.atTurn x)]
  rfl

theorem dropDuplicate_atTurn (f : Frame) : dropDuplicate f (s.atTurn x) = (dropDuplicate f s).atTurn x := by
  cases reack : s.cfg.dupReack <;> simp [dropDuplicate, reack, State.atTurn, postAck, discardUnit, State.label]

theorem handleUnit_atTurn (u : List Byte) (ovf : Bool) :
    handleUnit u ovf (s.atTurn x) = (handleUnit u ovf s).atTurn x := by
  have outcome : (s.atTurn x).unitOutcome u = s.unitOutcome u := rfl
  unfold handleUnit
  rw [outcome]
  cases ovf with
  | true => rfl
  | false =>
    cases s.unitOutcome u with
    | undersized | ackMatch | invalid c => rfl
    | accept f => exact acceptFrame_atTurn x s f
    | duplicate f => exact dropDuplicate_atTurn x s f

theorem handleHeldUnit_atTurn (ovf : Bool) :
    handleHeldUnit ovf (s.atTurn x) = onNext (State.atTurn x) (handleHeldUnit ovf s) := by
  have held : (s.atTurn x).heldUnit = s.heldUnit := rfl
  unfold handleHeldUnit
  rw [held]
  cases s.heldUnit with
  | none => rfl
  | some u => exact congrArg Host.Outcome.next (handleUnit_atTurn x s u ovf)

theorem endUnit_atTurn : endUnit (s.atTurn x) = onNext (State.atTurn x) (endUnit s) :=
  handleHeldUnit_atTurn x { s with rxOvf := false } s.rxOvf

theorem unstuffByte_atTurn (b : Byte) :
    unstuffByte b (s.atTurn x) = onNext (State.atTurn x) (unstuffByte b s) := by
  have escaped : receiveLiteral b (s.atTurn x) = (receiveLiteral b s).atTurn x :=
    storeByte_atTurn x { s with rxEsc := false } b
  have literal := storeByte_atTurn x s b
  unfold unstuffByte
  rw [onNext_ite, onNext_ite, onNext_ite, ← endUnit_atTurn, onNext_next, onNext_next, onNext_next, ← literal,
    ← escaped]
  rfl

theorem huntSample_atTurn (v : Int) : huntSample v (s.atTurn x) = (huntSample v s).atTurn x := by
  unfold huntSample
  rw [apply_ite (State.atTurn x), apply_ite (State.atTurn x), apply_ite (State.atTurn x)]
  rfl

theorem dataSample_atTurn (v : Int) :
    dataSample v (s.atTurn x) = onNext (State.atTurn x) (dataSample v s) := by
  rw [dataSample_eq, dataSample_eq, onNext_ite, onNext_ite, ← unstuffByte_atTurn]
  rfl

theorem deliverHeld_atTurn : deliverHeld (s.atTurn x) = onNext (State.atTurn x) (deliverHeld s) := by
  have held : (s.atTurn x).heldUnit = s.heldUnit := rfl
  unfold deliverHeld
  rw [onNext_ite, held]
  cases s.heldUnit with
  | none => rfl
  | some u =>
    dsimp only
    cases decodeFrame u <;> rfl

theorem rxpStep_atTurn : rxpStep (s.atTurn x) = onNext (State.atTurn x) (rxpStep s) := by
  by_cases halted : s.rxState = .halted
  · rw [rxpStep_of_halted halted]
    exact rxpStep_of_halted (s := s.atTurn x) halted
  cases running : s.shutdown with
  | true =>
    rw [rxpStep_of_shutdown halted running]
    exact rxpStep_of_shutdown (s := s.atTurn x) halted running
  | false =>
    cases state : s.rxState with
    | hunt =>
      rw [rxpStep_of_hunt running state, onNext_next, ← huntSample_atTurn]
      exact rxpStep_of_hunt (s := s.atTurn x) running state
    | data =>
      rw [rxpStep_of_data running state, ← dataSample_atTurn]
      exact rxpStep_of_data (s := s.atTurn x) running state
    | deliver =>
      rw [rxpStep_of_deliver running state, ← deliverHeld_atTurn]
      exact rxpStep_of_deliver (s := s.atTurn x) running state
    | halted => exact absurd state halted

end AtTurn

/-! ### The HOST's turn, request by request -/

theorem clearBit_getLsbD : ∀ (w : BitVec 4) (n m : Fin 4),
    (clearBit w n).getLsbD m = (decide (m ≠ n) && w.getLsbD m) := by decide

theorem clearBit_of_clear : ∀ (w : BitVec 4) (n : Fin 4), w.getLsbD n = false → clearBit w n = w := by decide

/-- `RESET` apart, three requests are all there can be (R111). -/
theorem clearBit_all : ∀ w : BitVec 4, w.getLsbD 3 = false → clearBit (clearBit (clearBit w 2) 0) 1 = 0 := by decide

theorem hostTurn_of_request {s : State} {i : Instr} (request : decodeHreq s.hReq s.hDst s.hPayload = .ok i) :
    hostTurn s = exec i (s.afterRequest i) := by
  have read : s.hostInstr = .ok i := request
  have requests : s.hReq ≠ 0 := by
    intro none
    rw [none] at request
    cases request
  rw [hostTurn, if_neg requests, read]

/-- `s` as the HOST's turn finds it with the requests `q` to handle. -/
def State.atRequest (q : BitVec 4) (s : State) : State := { s with hReq := q, turn := .host }

section Requests
variable {s : State} {q : BitVec 4} (legal : s.cfg.legal = true) (own : s.opPort = none)
include legal own

theorem step_atRequest {i : Instr} (request : decodeHreq q s.hDst s.hPayload = .ok i) :
    step (s.atRequest q) = exec i ((s.atRequest q).afterRequest i) := by
  rw [step_host (s := s.atRequest q) legal own rfl]
  exact hostTurn_of_request (s := s.atRequest q) request

theorem step_atRequest_shutdown (noReset : q.getLsbD 3 = false) (bit : q.getLsbD 2 = true) :
    step (s.atRequest q) = onNext (State.atRequest (clearBit q 2)) (execShutdown s) :=
  step_atRequest legal own (by rw [decodeHreq, noReset, bit]; rfl)

theorem step_atRequest_send (noReset : q.getLsbD 3 = false) (noShutdown : q.getLsbD 2 = false)
    (bit : q.getLsbD 0 = true) :
    step (s.atRequest q) = onNext (State.atRequest (clearBit q 0)) (execSend s.hDst s.hPayload s) := by
  rw [step_atRequest legal own (i := .send s.hDst s.hPayload) (by rw [decodeHreq, noReset, noShutdown, bit]; rfl),
    execSend_eq]
  exact execSend_eq _ _ _

omit legal own in
theorem execRecv_atRequest : execRecv (s.atRequest q) = onNext (State.atRequest q) (execRecv s) := by
  have queue : (s.atRequest q).inq = s.inq := rfl
  unfold execRecv
  rw [onNext_ite, queue]
  cases s.inq <;> rfl

theorem step_atRequest_recv (noReset : q.getLsbD 3 = false) (noShutdown : q.getLsbD 2 = false)
    (noSend : q.getLsbD 0 = false) (bit : q.getLsbD 1 = true) :
    step (s.atRequest q) = onNext (State.atRequest (clearBit q 1)) (execRecv s) := by
  rw [step_atRequest legal own (i := .recv) (by rw [decodeHreq, noReset, noShutdown, noSend, bit]; rfl)]
  exact execRecv_atRequest (s := s) (q := clearBit q 1)

theorem step_atRequest_zero : step (s.atRequest 0) = .next { s with hReq := 0, turn := .rxp } := by
  rw [step_host (s := s.atRequest 0) legal own rfl]
  rfl

end Requests

/-- One request of the vector, handled in a step of its own where its bit is set. -/
theorem runSteps_request {s : State} {q : BitVec 4} {b : Nat} {r : Result}
    (clear : q.getLsbD b = false → clearBit q b = q)
    (handled : q.getLsbD b = true → step (s.atRequest q) = onNext (State.atRequest (clearBit q b)) r) (n : Nat) :
    runSteps ((q.getLsbD b).toNat + n) (s.atRequest q) =
      andThen (if q.getLsbD b then r else .next s) fun t => runSteps n (t.atRequest (clearBit q b)) := by
  cases bit : q.getLsbD b with
  | false =>
    rw [clear bit]
    simp
  | true =>
    rw [Bool.toNat_true, Nat.add_comm, runSteps_succ, handled bit, andThen_onNext]
    rfl

/-- What a request does, handled or not, is the HOST's writing. -/
theorem writes_of_request {s t : State} {bit : Bool} {r : Result} (writes : ∀ {u}, r = .next u → HostWrites s u)
    (h : (if bit then r else .next s) = .next t) : HostWrites s t := by
  cases bit with
  | false =>
    cases h
    exact .refl s
  | true => exact writes h

theorem HostWrites.legal {s t : State} (h : HostWrites s t) (legal : s.cfg.legal = true) : t.cfg.legal = true :=
  (congrArg (fun s => s.cfg.legal) h.frame :).trans legal

theorem HostWrites.own {s t : State} (h : HostWrites s t) (own : s.opPort = none) : t.opPort = none :=
  (congrArg State.opPort h.frame :).trans own

theorem requestsInOrder_writes {s t : State} {q : BitVec 4} (h : requestsInOrder q s = .next t) : HostWrites s t := by
  obtain ⟨u, shutdown, h⟩ := andThen_eq_next.mp h
  obtain ⟨v, send, recv⟩ := andThen_eq_next.mp h
  exact ((writes_of_request execShutdown_writes shutdown).trans (writes_of_request execSend_writes send)).trans
    (writes_of_request execRecv_writes recv)

/-- The HOST's turn of a tick without `RESET`: its requests in their order, one step each, and one more step that
hands on to RXP (R269). -/
theorem runSteps_requests {s : State} {q : BitVec 4} (legal : s.cfg.legal = true) (own : s.opPort = none)
    (noReset : q.getLsbD 3 = false) (n : Nat) :
    runSteps ((q.getLsbD 2).toNat + ((q.getLsbD 0).toNat + ((q.getLsbD 1).toNat + (n + 1)))) (s.atRequest q) =
      andThen (requestsInOrder q s) fun t => runSteps n { t with hReq := 0, turn := .rxp } := by
  have bits := clearBit_getLsbD
  rw [requestsInOrder, andThen_assoc,
    runSteps_request (b := 2) (clearBit_of_clear q 2) (step_atRequest_shutdown legal own noReset)]
  refine andThen_congr fun t shutdown => ?_
  have writes := writes_of_request execShutdown_writes shutdown
  have legal := writes.legal legal
  have own := writes.own own
  have noReset' : (clearBit q 2).getLsbD 3 = false := (bits q 2 3).trans noReset
  have noShutdown : (clearBit q 2).getLsbD 2 = false := bits q 2 2
  have send : (clearBit q 2).getLsbD 0 = q.getLsbD 0 := bits q 2 0
  have recv : (clearBit (clearBit q 2) 0).getLsbD 1 = q.getLsbD 1 := (bits _ 0 1).trans (bits q 2 1)
  have stage := runSteps_request (b := 0) (clearBit_of_clear _ 0) (step_atRequest_send legal own noReset' noShutdown)
    ((q.getLsbD 1).toNat + (n + 1))
  rw [send] at stage
  rw [andThen_assoc, stage]
  refine andThen_congr fun u sent => ?_
  have writes := writes_of_request execSend_writes sent
  have legal := writes.legal legal
  have own := writes.own own
  have stage := runSteps_request (b := 1) (clearBit_of_clear _ 1)
    (step_atRequest_recv legal own (q := clearBit (clearBit q 2) 0)
    ((bits _ 0 3).trans noReset') ((bits _ 0 2).trans noShutdown) (bits _ 0 0)) (n + 1)
  rw [recv] at stage
  rw [stage]
  refine andThen_congr fun v received => ?_
  have writes := writes_of_request execRecv_writes received
  rw [clearBit_all q noReset, runSteps_succ, step_atRequest_zero (writes.legal legal) (writes.own own)]
  rfl

/-! ### RXP's and TXP's turns -/

/-- The last two steps of a tick (R80). -/
theorem runSteps_paths {s : State} (legal : s.cfg.legal = true) (own : s.opPort = none) (turn : s.turn = .line) :
    runSteps 2 (s.atTurn .rxp) = andThen (rxpStep s) txpStep := by
  have receive : step (s.atTurn .rxp) = onNext (State.atTurn .txp) (rxpStep s) := by
    rw [step_rxp (s := s.atTurn .rxp) legal own rfl, ← rxpStep_atTurn]
    rfl
  rw [runSteps_succ, receive, andThen_onNext]
  refine andThen_congr fun t h => ?_
  have frame := (rxpStep_writes h).frame
  have legal : t.cfg.legal = true := (congrArg (fun s => s.cfg.legal) frame :).trans legal
  have own : t.opPort = none := (congrArg State.opPort frame :).trans own
  have turn : t.turn = .line := (congrArg State.turn frame :).trans turn
  rw [runSteps_succ, step_txp (s := t.atTurn .txp) legal own rfl]
  have back : { t.atTurn .txp with turn := .line } = t := by rw [← turn]; rfl
  rw [back]
  cases txpStep t <;> rfl

/-- Settles O6: the HOST's turn is the requests in their order, and the paths' turns are their steps. -/
theorem tickIsLineHostRxpTxp : Obligations.TickIsLineHostRxpTxp := by
  intro s legal own turn
  have begun : step s = .next (({ s.beginTick with hReq := 0, turn := .line } : State).atRequest s.nextRequest.req) :=
    step_line legal own turn
  have legal : ({ s.beginTick with hReq := 0, turn := .line } : State).cfg.legal = true := legal
  have own : ({ s.beginTick with hReq := 0, turn := .line } : State).opPort = none := own
  unfold tick State.stepsOfTick
  dsimp only
  split_ifs with reset
  · change runSteps (1 + 1) s = _
    rw [runSteps_succ, begun, andThen_next, runSteps_succ, step_atRequest legal own (if_pos reset)]
    rfl
  · have noReset := Bool.eq_false_of_not_eq_true reset
    have count : 4 + (s.nextRequest.req.getLsbD 0).toNat + (s.nextRequest.req.getLsbD 1).toNat +
        (s.nextRequest.req.getLsbD 2).toNat = (s.nextRequest.req.getLsbD 2).toNat +
          ((s.nextRequest.req.getLsbD 0).toNat + ((s.nextRequest.req.getLsbD 1).toNat + (2 + 1))) + 1 := by omega
    rw [count]
    change runSteps (_ + 1) s = _
    rw [runSteps_succ, begun, andThen_next, runSteps_requests legal own noReset]
    refine andThen_congr fun t h => ?_
    have writes := requestsInOrder_writes h
    have noRequest : t.hReq = 0 := (congrArg State.hReq writes.frame :)
    have handed : { t with hReq := 0, turn := .rxp } = t.atTurn .rxp := by rw [← noRequest]; rfl
    rw [handed]
    exact runSteps_paths (writes.legal legal) (writes.own own) (congrArg State.turn writes.frame :)

/-! ### Several requests in one tick -/

/-- A HOST's turn is the turn with its own requests. -/
theorem State.atRequest_self {s : State} (turn : s.turn = .host) : s.atRequest s.hReq = s := by
  rw [State.atRequest, ← turn]

/-- Settles O59: the first request of the vector is handled, and after `SHUTDOWN` the others are cancelled. -/
theorem requestOrder : Obligations.RequestOrder := by
  intro s legal own turn
  have read {i : Instr} (request : decodeHreq s.hReq s.hDst s.hPayload = .ok i) :
      step s = exec i (s.afterRequest i) := by
    rw [step_host legal own turn, hostTurn_of_request request]
  refine ⟨fun reset => ?_, fun noReset shutdown => ?_, fun noReset noShutdown send => ?_, fun recv => ?_,
    fun several => ?_⟩
  · exact ⟨_, read (if_pos reset), rfl, rfl, rfl, rfl, rfl, rfl⟩
  · rw [read (i := .shutdown) (by rw [decodeHreq, noReset, shutdown]; rfl)]
    rfl
  · rw [read (i := .send s.hDst s.hPayload) (by rw [decodeHreq, noReset, noShutdown, send]; rfl)]
    rfl
  · rw [read (i := .recv) (by rw [recv]; rfl)]
    change exec .recv { s with hReq := clearBit s.hReq 1 } = _
    rw [recv]
    rfl
  · have run := runSteps_requests (q := 0b0111#4) legal own rfl 0
    rw [← several, s.atRequest_self turn] at run
    have answers : requestsInOrder 0b0111#4 s = .next
        { s with shutdown := true, out := { s.out with sendRsp := some .cancelled, recvRsp := some .cancelled } } := rfl
    rw [several, answers] at run
    exact ⟨_, run, rfl, rfl, rfl, rfl, rfl, rfl⟩

end Sys2Proof.Machine

/-! PROOFS. The frame codec (obligations O22, O23, O24; R140 to R147): a unit and its frame determine each other, and
a flipped bit changes the byte sum by a power of two, which the end-around carry cannot hide. -/

namespace Sys2Proof.Machine

/-! ### The rows of the pure functions -/

/-- The checksum of no bytes is the complement of 0 (R140). -/
theorem checksum_nil : checksum [] = 0xFF := rfl

theorem exec_decode_of_short {u : List Byte} (short : u.length < headerBytes) (s : State) :
    exec (.decode u) s = .fault .shortUnit := by
  change execDecode u s = _
  rw [execDecode, decodeFrame_eq_none_of_short short]

/-- Settles O24, row by row. -/
theorem pureFunctionRows : Obligations.PureFunctionRows := by
  intro s
  refine ⟨fun _ => rfl, fun _ => rfl, fun f => ?_, fun a b c d e rest => ?_, fun u short => ?_, fun f d n => ?_,
    fun _ _ => rfl, fun _ => rfl, fun buf => ?_, fun _ => rfl⟩
  · change execEncode f s = _
    unfold execEncode encodeFrame
    cases f.isAcknowledgment <;> rfl
  · cases rest <;> rfl
  · exact exec_decode_of_short short s
  · change execVerify f d n s = _
    unfold execVerify verify headerSum
    simp only [Bool.decide_and, Bool.and_assoc]
  · change execStuff buf s = _
    rw [execStuff, stuff_eq_flatMap]
    rfl

/-! ### Encoding and decoding (R142, R143) -/

/-- The encoding of a frame whose type agrees with its payload is its header and its payload. -/
theorem encodeFrame_eq {f : Frame} (typed : f.isAcknowledgment = true → f.payload = []) : encodeFrame f =
    f.source :: f.destination :: f.sequenceNumber :: f.headerChecksum :: f.payloadChecksum :: f.payload := by
  unfold encodeFrame
  cases acknowledgment : f.isAcknowledgment with
  | true => rw [typed acknowledgment]; rfl
  | false => rfl

/-- A frame is recovered from its encoding, with the type its length tells. -/
theorem decodeFrame_encodeFrame {f : Frame} (typed : f.isAcknowledgment = true → f.payload = []) :
    decodeFrame (encodeFrame f) = some { f with isAcknowledgment := decide (f.payload = []) } := by
  rw [encodeFrame_eq typed, decodeFrame_eq_some]
  exact ⟨rfl, by cases f.payload <;> rfl⟩

/-- Settles O23: verification reads the fields, and the builders compute both checksums. -/
theorem validFramesValidate : Obligations.ValidFramesValidate := by
  refine ⟨fun f header body typed => ⟨decodeFrame_encodeFrame typed, fun g decoded => ?_⟩,
    fun _ _ _ => ⟨rfl, rfl⟩, fun _ _ => ⟨rfl, rfl⟩⟩
  rw [decodeFrame_encodeFrame typed] at decoded
  cases decoded
  exact verify_iff.mpr ⟨rfl, rfl, header, body⟩

/-! ### Single-bit errors (R147) -/

/-- Bit `k` of `b` flipped. -/
def flipBit (k : Nat) (b : Byte) : Byte := b ^^^ (1#8 <<< k)

/-- `m` and `n` differ by a power of two that a byte holds; the checksum's argument uses its size only. -/
def DiffersByBit (m n : Nat) : Prop := ∃ d, 1 ≤ d ∧ d ≤ 128 ∧ (m = n + d ∨ n = m + d)

theorem differsByBit_flipBit {k : Nat} (hk : k < 8) (b : Byte) : DiffersByBit (flipBit k b).toNat b.toNat := by
  have table : ∀ (k : Fin 8) (b : Byte), (flipBit k b).toNat = b.toNat + 2 ^ k.val ∨
      b.toNat = (flipBit k b).toNat + 2 ^ k.val := by decide
  exact ⟨2 ^ k, Nat.one_le_two_pow, Nat.pow_le_pow_right (n := 2) (by decide) (Nat.le_of_lt_succ hk), table ⟨k, hk⟩ b⟩

theorem DiffersByBit.add_left {m n : Nat} (h : DiffersByBit m n) (a : Nat) : DiffersByBit (a + m) (a + n) := by
  obtain ⟨d, low, high, either⟩ := h
  exact ⟨d, low, high, by omega⟩

theorem DiffersByBit.add_right {m n : Nat} (h : DiffersByBit m n) (a : Nat) : DiffersByBit (m + a) (n + a) := by
  rw [Nat.add_comm m, Nat.add_comm n]
  exact h.add_left a

/-- A flipped bit of one byte moves the sum of all by as much. -/
theorem differsByBit_sum_modify {k : Nat} (hk : k < 8) (l : List Byte) (i : Nat) (hi : i < l.length) :
    DiffersByBit ((l.modify i (flipBit k)).map BitVec.toNat).sum (l.map BitVec.toNat).sum := by
  induction l generalizing i with
  | nil => cases hi
  | cons b rest ih =>
    cases i with
    | zero => exact (differsByBit_flipBit hk b).add_right _
    | succ i => exact (ih i (Nat.lt_of_succ_lt_succ hi)).add_left _

/-- A residue modulo 65536 that grows by `d` changes modulo 255, but where it wraps from 65535 to 0; there one of the
two is zero and the other is not. -/
theorem residue_ne_of_add {m d : Nat} (low : 1 ≤ d) (high : d ≤ 128) (same : m % 65536 % 255 = (m + d) % 65536 % 255)
    (zero : m % 65536 = 0 ↔ (m + d) % 65536 = 0) : False := by
  by_cases wraps : m % 65536 + d < 65536
  · have grown : (m + d) % 65536 = m % 65536 + d := by omega
    rw [grown] at same
    omega
  · have wrapped : (m + d) % 65536 = m % 65536 + d - 65536 := by omega
    rw [wrapped] at same zero
    omega

/-- Sums that differ by a flipped bit have different checksums. -/
theorem checksum_ne_of_differsByBit {l l' : List Byte}
    (h : DiffersByBit (l'.map BitVec.toNat).sum (l.map BitVec.toNat).sum) : checksum l' ≠ checksum l := by
  intro same
  have values := congrArg BitVec.toNat same
  have small := foldCarry_two_le (accumulate 0 l)
  have small' := foldCarry_two_le (accumulate 0 l')
  obtain ⟨residue, zero⟩ := foldCarry_residue 2 (accumulate 0 l)
  obtain ⟨residue', zero'⟩ := foldCarry_residue 2 (accumulate 0 l')
  rw [checksum_toNat, checksum_toNat] at values
  rw [accumulate_zero_toNat] at residue zero residue' zero'
  have folded : (foldCarry 2 (accumulate 0 l')).toNat = (foldCarry 2 (accumulate 0 l)).toNat := by omega
  rw [folded] at residue' zero'
  obtain ⟨d, low, high, larger | larger⟩ := h
  · rw [larger] at residue' zero'
    exact residue_ne_of_add low high (residue.symm.trans residue') (zero.symm.trans zero')
  · rw [larger] at residue zero
    exact residue_ne_of_add low high (residue'.symm.trans residue) (zero'.symm.trans zero)

theorem checksum_modify_ne {k : Nat} (hk : k < 8) {l : List Byte} {i : Nat} (hi : i < l.length) :
    checksum (l.modify i (flipBit k)) ≠ checksum l :=
  checksum_ne_of_differsByBit (differsByBit_sum_modify hk l i hi)

theorem flipBit_ne {k : Nat} (hk : k < 8) (b : Byte) : flipBit k b ≠ b := by
  intro same
  obtain ⟨d, low, -, either⟩ := differsByBit_flipBit hk b
  rw [same] at either
  omega

/-- The frame that the encoding of `f` with one bit of byte `i` flipped decodes to: one field changed. -/
theorem decodeFrame_modify_verify {f g : Frame} {k : Nat} (hk : k < 8) (header : headerSum f = f.headerChecksum)
    (body : checksum f.payload = f.payloadChecksum) (i : Nat) (hi : i < headerBytes + f.payload.length)
    (decoded : decodeFrame (List.modify (f.source :: f.destination :: f.sequenceNumber :: f.headerChecksum ::
      f.payloadChecksum :: f.payload) i (flipBit k)) = some g) :
    verify g f.destination f.sequenceNumber = false := by
  rw [← Bool.not_eq_true, verify_iff]
  rintro ⟨here, new, header', body'⟩
  match i with
  | 0 =>
    cases decoded
    exact checksum_modify_ne hk (l := [f.source, f.destination, f.sequenceNumber]) (i := 0) (Nat.zero_lt_succ 2)
      (header'.trans header.symm)
  | 1 =>
    cases decoded
    exact flipBit_ne hk _ here
  | 2 =>
    cases decoded
    exact flipBit_ne hk _ new
  | 3 =>
    cases decoded
    exact flipBit_ne hk _ (header'.symm.trans header)
  | 4 =>
    cases decoded
    exact flipBit_ne hk _ (body'.symm.trans body)
  | i + 5 =>
    cases decoded
    have inPayload : i < f.payload.length := by
      unfold headerBytes at hi
      omega
    exact checksum_modify_ne hk inPayload (body'.trans body.symm)

/-- Settles O22, by the field in which the flipped bit lies. -/
theorem singleBitErrorsCaught : Obligations.SingleBitErrorsCaught := by
  intro f g i k header body typed hi hk decoded
  rw [encodeFrame_eq typed] at decoded hi
  refine decodeFrame_modify_verify hk header body i ?_ decoded
  simp only [List.length_cons] at hi
  unfold headerBytes
  omega

end Sys2Proof.Machine

/-! PROOFS. The handling of a finished unit (obligations O30 to O33, O35 to O37; R164, R241 to R251): which outcome
R241's tests select, what each outcome writes, and that every outcome row does what the tests say. -/

namespace Sys2Proof.Machine

/-! ### The outcome rows follow the tests (R241; log entry 10) -/

section OutcomeRows
variable {s : State}

theorem handleHeldUnit_of_held {u : List Byte} (held : s.heldUnit = some u) (ovf : Bool) :
    handleHeldUnit ovf s = .next (handleUnit u ovf s) := by
  rw [handleHeldUnit, held]

/-- A held unit with an outcome is handled by it. -/
theorem handleHeldUnit_of_heldOutcome {o : UnitOutcome} (h : s.heldOutcome = some o) :
    ∃ u, s.unitOutcome u = o ∧ handleHeldUnit false s = .next (handleUnit u false s) := by
  obtain ⟨u, held, outcome⟩ := Option.map_eq_some_iff.mp h
  exact ⟨u, outcome, handleHeldUnit_of_held held false⟩

section Outcomes
variable {u : List Byte}

theorem handleUnit_of_ackMatch (outcome : s.unitOutcome u = .ackMatch) : handleUnit u false s = signalAck s := by
  simp [handleUnit, outcome]

theorem handleUnit_of_accept {f : Frame} (outcome : s.unitOutcome u = .accept f) :
    handleUnit u false s = acceptFrame f s := by
  simp [handleUnit, outcome]

theorem handleUnit_of_duplicate {f : Frame} (outcome : s.unitOutcome u = .duplicate f) :
    handleUnit u false s = dropDuplicate f s := by
  simp [handleUnit, outcome]

theorem handleUnit_of_invalid {c : DiscardCause} (outcome : s.unitOutcome u = .invalid c) :
    handleUnit u false s = discardUnit c s := by
  simp [handleUnit, outcome]

end Outcomes

variable (s)

theorem exec_rxAckmatch : exec .rxAckmatch s = handleHeldUnit false s := by
  change execRxAckmatch s = _
  unfold execRxAckmatch
  split
  · next selected =>
    obtain ⟨u, outcome, handled⟩ := handleHeldUnit_of_heldOutcome selected
    rw [handled, handleUnit_of_ackMatch outcome]
  · rfl

theorem exec_rxAccept : exec .rxAccept s = handleHeldUnit false s := by
  change execRxAccept s = _
  unfold execRxAccept
  split
  · next selected =>
    obtain ⟨u, outcome, handled⟩ := handleHeldUnit_of_heldOutcome selected
    rw [handled, handleUnit_of_accept outcome]
  · rfl

theorem exec_rxInvalid : exec .rxInvalid s = handleHeldUnit false s := by
  change execRxInvalid s = _
  unfold execRxInvalid
  split
  · next selected =>
    obtain ⟨u, outcome, handled⟩ := handleHeldUnit_of_heldOutcome selected
    rw [handled, handleUnit_of_invalid outcome]
  · rfl

theorem exec_rxDuplicate : exec .rxDuplicate s = handleHeldUnit false s := by
  change execRxDuplicate s = _
  unfold execRxDuplicate
  split
  · next selected =>
    obtain ⟨u, outcome, handled⟩ := handleHeldUnit_of_heldOutcome selected
    rw [handled, handleUnit_of_duplicate outcome]
  · rfl

end OutcomeRows

/-- Settles O33: every outcome row is the handling of the held unit, which completes within the capacity. -/
theorem outcomeRowsFollowTests : Obligations.OutcomeRowsFollowTests := by
  intro s within
  refine ⟨?_, _, handleHeldUnit_eq within false, ?_⟩
  · rw [exec_unit, exec_rxOverflow, handleHeldUnit_eq within, handleUnit_of_overflow]
  · simp only [List.forall_mem_cons, exec_rxUndersized, exec_rxAckmatch, exec_rxAccept, exec_rxInvalid,
      exec_rxDuplicate, handleHeldUnit_eq within, true_and, List.not_mem_nil, false_implies, implies_true]

/-! ### Which outcome the tests select -/

section Tests
variable {s : State} {u : List Byte} {f : Frame}

theorem State.unitOutcome_of_matched (decoded : decodeFrame u = some f) (matched : s.ackMatches u = true) :
    s.unitOutcome u = .ackMatch := by
  rw [State.unitOutcome, decoded]
  exact if_pos matched

/-- R245, R246. -/
theorem State.unitOutcome_of_valid (decoded : decodeFrame u = some f) (unmatched : s.ackMatches u = false)
    (valid : verify f s.cfg.myId s.expected = true) : s.unitOutcome u = .accept f := by
  rw [State.unitOutcome, decoded]
  simp [unmatched, candidateFailure_eq_none.mpr valid]

/-- The number expected next is not the one accepted last (R36). -/
theorem State.expected_ne (s : State) : s.framesReceived ≠ s.expected := by
  have table : ∀ n : Byte, n ≠ seqNext n := by decide
  exact table s.framesReceived

/-- A frame is not valid under two numbers. -/
theorem verify_of_ne {d n n' : Byte} (valid : verify f d n = true) (ne : n ≠ n') : verify f d n' = false := by
  rw [← Bool.not_eq_true]
  intro valid'
  exact ne ((verify_iff.mp valid).2.1.symm.trans (verify_iff.mp valid').2.1)

/-- A candidate that is not valid fails some condition (R248). -/
theorem candidateFailure_of_not_valid {d n : Byte} (notValid : verify f d n = false) :
    ∃ c, candidateFailure f d n = some c := by
  rw [← Option.ne_none_iff_exists']
  intro valid
  cases notValid.symm.trans (candidateFailure_eq_none.mp valid)

/-- R249: the number accepted last, all else right. -/
theorem State.unitOutcome_of_repeated (decoded : decodeFrame u = some f) (unmatched : s.ackMatches u = false)
    (repeated : verify f s.cfg.myId s.framesReceived = true) : s.unitOutcome u = .duplicate f := by
  obtain ⟨c, failure⟩ := candidateFailure_of_not_valid (verify_of_ne repeated s.expected_ne)
  have duplicate : isDuplicate f s.cfg.myId s.framesReceived = true := repeated
  rw [State.unitOutcome, decoded]
  simp [unmatched, failure, duplicate]

/-- R248: neither valid nor a duplicate. -/
theorem State.unitOutcome_of_failure {c : DiscardCause} (decoded : decodeFrame u = some f)
    (unmatched : s.ackMatches u = false) (failure : candidateFailure f s.cfg.myId s.expected = some c)
    (notRepeated : verify f s.cfg.myId s.framesReceived = false) : s.unitOutcome u = .invalid c := by
  have noDuplicate : isDuplicate f s.cfg.myId s.framesReceived = false := notRepeated
  rw [State.unitOutcome, decoded]
  simp [unmatched, failure, noDuplicate]

/-- The labels of R248 are those of its four conditions. -/
theorem candidateFailure_mem {d n : Byte} {c : DiscardCause} (failure : candidateFailure f d n = some c) :
    c ∈ [DiscardCause.destinationMismatch, .sequenceMismatch, .headerChecksum, .payloadChecksum] := by
  unfold candidateFailure at failure
  split_ifs at failure <;> cases failure <;> simp

end Tests

/-! ### What each outcome writes (R251) -/

section Effects
variable {s : State} {f : Frame}

theorem acceptFrame_of_room (room : s.inq.length < s.cfg.queueCap) : acceptFrame f s =
    { s with
      framesReceived := s.framesReceived + 1
      pendingAck := some { destination := f.source, sequence := f.sequenceNumber }
      inq := s.inq ++ [{ f with isAcknowledgment := false }]
      rxLen := 0
      out := { s.out with cause := some .acted } } :=
  if_neg (mt (full_iff _ _).mp room.not_ge)

theorem acceptFrame_of_full (noRoom : s.cfg.queueCap ≤ s.inq.length) : acceptFrame f s =
    { s with
      framesReceived := s.framesReceived + 1
      pendingAck := some { destination := f.source, sequence := f.sequenceNumber }
      rxState := .deliver
      out := { s.out with cause := some .acted } } :=
  if_pos ((full_iff _ _).mpr noRoom)

theorem dropDuplicate_eq (f : Frame) (s : State) : dropDuplicate f s =
    { s with
      pendingAck :=
        if s.cfg.dupReack then some { destination := f.source, sequence := f.sequenceNumber } else s.pendingAck
      rxLen := 0
      out := { s.out with cause := some .duplicate } } := by
  unfold dropDuplicate
  split_ifs <;> rfl

end Effects

/-- Settles O31: the tests select the outcome, and each outcome is one update of the state. -/
theorem unitOutcomeTable : Obligations.UnitOutcomeTable := by
  intro s u held
  have handled (ovf : Bool) : exec (.unit ovf) s = .next (handleUnit u ovf s) := handleHeldUnit_of_held held ovf
  refine ⟨handled true, fun short => ?_, fun f decoded => ⟨fun matched => ?_, fun unmatched =>
    ⟨fun valid room => ?_, fun valid noRoom => ?_, fun repeated => ?_, fun notValid notRepeated => ?_⟩⟩⟩
  · rw [handled, handleUnit_of_short short]
    rfl
  · rw [handled, handleUnit_of_ackMatch (State.unitOutcome_of_matched decoded matched)]
    rfl
  · rw [handled, handleUnit_of_accept (State.unitOutcome_of_valid decoded unmatched valid), acceptFrame_of_room room]
  · rw [handled, handleUnit_of_accept (State.unitOutcome_of_valid decoded unmatched valid), acceptFrame_of_full noRoom]
  · rw [handled, handleUnit_of_duplicate (State.unitOutcome_of_repeated decoded unmatched repeated), dropDuplicate_eq]
  · obtain ⟨c, failure⟩ := candidateFailure_of_not_valid notValid
    refine ⟨c, candidateFailure_mem failure, ?_⟩
    rw [handled, handleUnit_of_invalid (State.unitOutcome_of_failure decoded unmatched failure notRepeated)]
    rfl

/-! ### The acknowledgment test (R244) -/

/-- A unit that has the length of a header and decodes is that header alone. -/
theorem decodeFrame_of_header {u : List Byte} (length : u.length = headerBytes) :
    ∃ a b c d e, u = [a, b, c, d, e] := by
  match u, length with
  | [a, b, c, d, e], _ => exact ⟨a, b, c, d, e, rfl⟩

/-- Settles O32: a unit of five bytes is its header, and `verify` reads the header's fields. -/
theorem acknowledgmentSignals : Obligations.AcknowledgmentSignals := by
  intro s u
  refine ⟨⟨fun matched => ?_, ?_⟩, fun held matched => ?_⟩
  · obtain ⟨sending, data⟩ := s.outstanding_iff.mp (State.ackMatches_outstanding matched)
    simp only [State.ackMatches, Bool.and_eq_true, decide_eq_true_eq] at matched
    obtain ⟨⟨length, -⟩, agrees⟩ := matched
    obtain ⟨a, b, c, d, e, rfl⟩ := decodeFrame_of_header length
    cases frame : s.cur with
    | none => simp [frame] at agrees
    | some f =>
      simp only [frame, decodeFrame, verify_iff] at agrees
      obtain ⟨rfl, rfl, header, rfl⟩ := agrees
      have header : checksum [a, s.cfg.myId, f.sequenceNumber] = d := header
      exact ⟨sending, data, f, a, rfl, by rw [header, checksum_nil]⟩
  · rintro ⟨sending, data, f, a, frame, rfl⟩
    have outstanding := s.outstanding_iff.mpr ⟨sending, data⟩
    have valid : verify ⟨a, s.cfg.myId, f.sequenceNumber, [], checksum [a, s.cfg.myId, f.sequenceNumber], 0xFF, true⟩
        s.cfg.myId f.sequenceNumber = true := verify_iff.mpr ⟨rfl, rfl, rfl, checksum_nil⟩
    simp only [State.ackMatches, outstanding, frame, decodeFrame, List.isEmpty_nil, valid, Bool.and_true,
      decide_eq_true_eq]
    rfl
  · have decoded : ∃ f, decodeFrame u = some f := by
      simp only [State.ackMatches, Bool.and_eq_true, decide_eq_true_eq] at matched
      obtain ⟨a, b, c, d, e, rfl⟩ := decodeFrame_of_header matched.1.1
      exact ⟨_, rfl⟩
    obtain ⟨f, decoded⟩ := decoded
    rw [exec_rxAckmatch, handleHeldUnit_of_held held,
      handleUnit_of_ackMatch (State.unitOutcome_of_matched decoded matched)]
    rfl

/-! ### The outcome rows -/

/-- Settles O35: the candidate passes R245's conditions, and `inq` has room or has not. -/
theorem acceptDelivers : Obligations.AcceptDelivers := by
  intro s u f held unmatched decoded here new header body
  have valid : verify f s.cfg.myId s.expected = true := verify_iff.mpr ⟨here, new, header, body⟩
  rw [exec_rxAccept, handleHeldUnit_of_held held,
    handleUnit_of_accept (State.unitOutcome_of_valid decoded unmatched valid)]
  by_cases room : s.inq.length < s.cfg.queueCap
  · simp only [if_pos room]
    rw [acceptFrame_of_room room]
  · simp only [if_neg room]
    rw [acceptFrame_of_full (not_lt.mp room)]

/-- The label of a candidate that is not valid is that of the first condition that fails (R248). -/
theorem candidateFailure_eq_some {f : Frame} {d n : Byte} (notValid : verify f d n = false) :
    candidateFailure f d n = some
      (if f.destination ≠ d then .destinationMismatch
      else if f.sequenceNumber ≠ n then .sequenceMismatch
      else if headerSum f ≠ f.headerChecksum then .headerChecksum
      else .payloadChecksum) := by
  rw [← Bool.not_eq_true, ← candidateFailure_eq_none] at notValid
  unfold candidateFailure at notValid ⊢
  split_ifs at notValid ⊢
  · rfl
  · rfl
  · rfl
  · rfl
  · exact absurd rfl notValid

/-- Settles O36: the label is the first failing condition's; a duplicate fails the sequence condition alone. -/
theorem rejectedCandidates : Obligations.RejectedCandidates := by
  intro s u f held unmatched decoded
  refine ⟨fun notValid notRepeated => ?_, fun repeated => ?_⟩
  · have failure := candidateFailure_eq_some (n := s.expected) notValid
    rw [exec_rxInvalid, handleHeldUnit_of_held held,
      handleUnit_of_invalid (State.unitOutcome_of_failure decoded unmatched failure notRepeated)]
    rfl
  · rw [exec_rxDuplicate, handleHeldUnit_of_held held,
      handleUnit_of_duplicate (State.unitOutcome_of_repeated decoded unmatched repeated), dropDuplicate_eq]

/-- Settles O37: the row is RXP's step, which waits for room in `inq`. -/
theorem deliverWaitsForRoom : Obligations.DeliverWaitsForRoom := by
  intro s running delivering
  rw [exec_rxDeliver, rxpStep_of_deliver running delivering, deliverHeld]
  refine ⟨fun noRoom => if_pos ((full_iff _ _).mpr noRoom), fun u f room held decoded => ?_⟩
  rw [if_neg (mt (full_iff _ _).mp room.not_ge), held]
  dsimp only
  rw [decoded]
  rfl

/-! ### The end of a unit (R164) -/

/-- Whatever becomes of a unit, its bytes stay; the buffer is released, or kept in `Deliver` (R164, R241). -/
theorem handleUnit_buffer (u : List Byte) (ovf : Bool) (s : State) :
    (handleUnit u ovf s).rxBuf = s.rxBuf ∧ (handleUnit u ovf s).rxOvf = s.rxOvf ∧
      ((handleUnit u ovf s).rxLen = 0 ∧ (handleUnit u ovf s).rxState = s.rxState ∨
        (handleUnit u ovf s).rxLen = s.rxLen ∧ (handleUnit u ovf s).rxState = .deliver) := by
  obtain ⟨c, result⟩ | ⟨-, result⟩ | ⟨f, -, result⟩ | ⟨f, result⟩ := handleUnit_cases u ovf s
  all_goals rw [result]
  · exact ⟨rfl, rfl, .inl ⟨rfl, rfl⟩⟩
  · exact ⟨rfl, rfl, .inl ⟨rfl, rfl⟩⟩
  · by_cases room : s.inq.length < s.cfg.queueCap
    · rw [acceptFrame_of_room room]
      exact ⟨rfl, rfl, .inl ⟨rfl, rfl⟩⟩
    · rw [acceptFrame_of_full (not_lt.mp room)]
      exact ⟨rfl, rfl, .inr ⟨rfl, rfl⟩⟩
  · rw [dropDuplicate_eq]
    exact ⟨rfl, rfl, .inl ⟨rfl, rfl⟩⟩

/-- Settles O30: the row clears the mark and handles the unit held. -/
theorem unitEndHandsOver : Obligations.UnitEndHandsOver := by
  intro s within
  obtain ⟨buffer, mark, release⟩ := handleUnit_buffer (s.rxBuf.readRun 0 s.rxLen) s.rxOvf { s with rxOvf := false }
  have ended : exec .unitend s = .next (handleUnit (s.rxBuf.readRun 0 s.rxLen) s.rxOvf { s with rxOvf := false }) :=
    handleHeldUnit_eq (s := { s with rxOvf := false }) within s.rxOvf
  exact ⟨rfl, _, ended, mark, fun a => by rw [buffer], release⟩

end Sys2Proof.Machine

/-! PROOFS. What arrives from the line and where it is stored (obligations O19, O27, O38; R104, R119, R162, R163): a
row of a received byte is R162's handling of it, and each operation writes `rx_buf` where it stores and nowhere else. -/

namespace Sys2Proof.Machine

/-! ### The rows of received bytes (log entries 10 and 12) -/

section Received
variable {s t : State}

theorem heard_of_deaf (r : Result) (deaf : s.deaf = true) : heard s r = .next s := if_pos deaf

theorem heard_of_listening (r : Result) (listening : s.deaf = false) : heard s r = r :=
  if_neg (Bool.eq_false_iff.mp listening)

theorem heard_eq_next {r : Result} (h : heard s r = .next t) : s.deaf = true ∧ t = s ∨ s.deaf = false ∧ r = .next t := by
  cases deaf : s.deaf with
  | true =>
    rw [heard_of_deaf r deaf] at h
    cases h
    exact .inl ⟨rfl, rfl⟩
  | false => exact .inr ⟨rfl, (heard_of_listening r deaf).symm.trans h⟩

/-- A byte that is data is stored, the escape before it, if any, used up (R162). -/
theorem unstuffByte_of_isDataByte {b : Byte} (data : s.isDataByte b = true) :
    unstuffByte b s = .next (receiveLiteral b s) := by
  cases escaped : s.rxEsc with
  | true => exact unstuffByte_of_escaped b escaped
  | false =>
    obtain framed | ⟨noEscape, noSentinel⟩ := (s.isDataByte_iff b).mp data
    · cases escaped.symm.trans framed
    · have plain : { s with rxEsc := false } = s := by rw [← escaped]
      rw [unstuffByte_literal escaped noEscape noSentinel, receiveLiteral, plain]

theorem receiveLiteral_of_room (b : Byte) (room : s.rxLen < s.cfg.rxBufBytes) : receiveLiteral b s =
    { s with rxEsc := false, rxBuf := s.rxBuf.write s.rxLen b, rxLen := s.rxLen + 1 } :=
  storeByte_of_room (s := { s with rxEsc := false }) b room

theorem receiveLiteral_of_full (b : Byte) (atCapacity : s.cfg.rxBufBytes ≤ s.rxLen) :
    receiveLiteral b s = { s with rxEsc := false, rxOvf := true } :=
  storeByte_of_full (s := { s with rxEsc := false }) b atCapacity

variable (s)

theorem exec_sentinel : exec .sentinel s = heard s (unstuffByte sentinelByte s) := by
  refine congrArg (heard s) (orDispatched_eq fun plain => ?_)
  exact (unstuffByte_sentinelByte (by simpa using plain)).symm

theorem exec_escape : exec .escape s = heard s (unstuffByte escapeByte s) := by
  refine congrArg (heard s) (orDispatched_eq fun plain => ?_)
  exact (unstuffByte_escapeByte (by simpa using plain)).symm

theorem exec_literal (b : Byte) : exec (.literal b) s = heard s (unstuffByte b s) :=
  congrArg (heard s) (orDispatched_eq fun data => (unstuffByte_of_isDataByte data).symm)

theorem exec_escAny (b : Byte) : exec (.escAny b) s =
    heard s (andThen (unstuffByte escapeByte s) fun s => heard s (unstuffByte b s)) := rfl

/-- Where a byte goes does not change whether RXP listens. -/
theorem storeByte_deaf (b : Byte) : (storeByte b s).deaf = s.deaf := by
  unfold storeByte
  split_ifs <;> rfl

end Received

/-- Settles O27: each row is R162's handling of its bytes, by class and by room. -/
theorem receivedByteRows : Obligations.ReceivedByteRows := by
  intro s b
  refine ⟨fun deaf => ?_, fun listening plain => ?_, fun listening data => ?_, fun listening escaped => ?_⟩
  · rw [exec_sentinel, exec_escape, exec_literal, exec_escAny]
    exact ⟨heard_of_deaf _ deaf, heard_of_deaf _ deaf, heard_of_deaf _ deaf, heard_of_deaf _ deaf⟩
  · have armed : exec (.escAny b) s = .next (storeByte b s) := by
      have disarmed : { s with rxEsc := false } = s := by rw [← plain]
      rw [exec_escAny, heard_of_listening _ listening, unstuffByte_escapeByte plain, andThen_next,
        heard_of_listening (s := { s with rxEsc := true }) _ listening, unstuffByte_of_escaped b rfl, disarmed]
    refine ⟨?_, fun within => ?_, ?_, ?_, fun room => ?_, fun atCapacity => ?_⟩
    · rw [exec_escape, heard_of_listening _ listening, unstuffByte_escapeByte plain]
    · rw [exec_sentinel, heard_of_listening _ listening, unstuffByte_sentinelByte plain, exec_unitend]
      exact ⟨rfl, endUnit_completes within⟩
    · rw [exec_literal, exec_escape]
      rfl
    · rw [exec_literal, exec_sentinel]
      rfl
    · rw [armed, storeByte_of_room b room, ← plain]
    · rw [armed, storeByte_of_full b atCapacity]
  · have stored : exec (.literal b) s = .next (receiveLiteral b s) := by
      rw [exec_literal, heard_of_listening _ listening, unstuffByte_of_isDataByte ((s.isDataByte_iff b).mpr data)]
    refine ⟨fun room => ?_, fun atCapacity => ?_⟩
    · rw [stored, receiveLiteral_of_room b room]
    · rw [stored, receiveLiteral_of_full b atCapacity]
  · have first : exec (.escAny b) s =
        unstuffByte b (receiveLiteral escapeByte s) := by
      have data := (s.isDataByte_iff escapeByte).mpr (.inl escaped)
      have listens : (receiveLiteral escapeByte s).deaf = false := (storeByte_deaf _ _).trans listening
      rw [exec_escAny, heard_of_listening _ listening, unstuffByte_of_isDataByte data, andThen_next,
        heard_of_listening _ listens]
    refine ⟨?_, ?_, fun room => ⟨?_, ?_⟩, fun atCapacity => ?_⟩
    · rw [exec_escape, exec_literal]
      rfl
    · rw [exec_sentinel, exec_literal]
      rfl
    · rw [first, receiveLiteral_of_room _ room]
      exact unstuffByte_completes b (Nat.succ_le_of_lt room)
    · rw [first, receiveLiteral_of_room _ room]
      rfl
    · rw [first, receiveLiteral_of_full _ atCapacity]
      rfl

/-! ### Whole units (log entry 16) -/

section WholeUnits
variable {s : State}

theorem exec_data (src dst seq hcs pcs : Byte) (payload : List Byte) (s : State) :
    exec (.data src dst seq hcs pcs payload) s =
      heard s (receiveUnit (src :: dst :: seq :: hcs :: pcs :: payload) s) := rfl

theorem exec_ack (src dst seq hcs pcs : Byte) (s : State) :
    exec (.ack src dst seq hcs pcs) s = exec (.data src dst seq hcs pcs []) s := rfl

/-- A unit that fits is stored whole and then ends as it would byte by byte. -/
theorem receiveUnit_of_fits {u : List Byte} (wf : s.rxBuf.wf = true) (fits : u.length ≤ s.cfg.rxBufBytes) :
    ∃ m : Memory, m.readRun 0 u.length = u ∧
      receiveUnit u s = endUnit { s with rxBuf := m, rxLen := u.length, rxOvf := false } := by
  obtain ⟨m, stored, run⟩ := storeAll_of_fits u { s with rxLen := 0, rxOvf := false } wf (by simpa using fits)
  simp only [Nat.zero_add, Memory.readRun_zero, List.nil_append] at stored run
  exact ⟨m, run, by rw [receiveUnit, stored]⟩

/-- The end of an unmarked unit of known bytes handles those bytes. -/
theorem endUnit_of_run {m : Memory} {u : List Byte} (run : m.readRun 0 u.length = u)
    (fits : u.length ≤ s.cfg.rxBufBytes) :
    endUnit { s with rxBuf := m, rxLen := u.length, rxOvf := false } =
      .next (handleUnit u false { s with rxBuf := m, rxLen := u.length, rxOvf := false }) := by
  have held : handleHeldUnit false { s with rxBuf := m, rxLen := u.length, rxOvf := false } = _ :=
    handleHeldUnit_eq fits false
  rw [run] at held
  exact held

end WholeUnits

/-- Settles O38: the unit is stored and ends, and R241's tests take it from there. -/
theorem wholeUnitRows : Obligations.WholeUnitRows := by
  intro s src dst seq hcs pcs payload
  refine ⟨rfl, fun deaf => heard_of_deaf _ deaf, fun listening wf => ⟨fun short => ?_, fun matched => ?_⟩⟩
  · have length : (src :: dst :: seq :: hcs :: pcs :: payload).length = 5 + payload.length := Nat.add_comm _ 5
    have fits : (src :: dst :: seq :: hcs :: pcs :: payload).length ≤ s.cfg.rxBufBytes :=
      length.trans_le (Nat.add_le_add_left short 5)
    obtain ⟨m, run, stored⟩ := receiveUnit_of_fits wf fits
    have ended := endUnit_of_run (s := s) run fits
    rw [exec_data, heard_of_listening _ listening, stored, ended]
    rw [length] at run ended ⊢
    refine ⟨_, m, rfl, run, ended.symm, fun unmatched here new header body room => ?_⟩
    have valid : verify ⟨src, dst, seq, payload, hcs, pcs, payload.isEmpty⟩ s.cfg.myId s.expected = true :=
      verify_iff.mpr ⟨here, new, header.symm, body.symm⟩
    have accepted : State.unitOutcome { s with rxBuf := m, rxLen := 5 + payload.length, rxOvf := false }
        (src :: dst :: seq :: hcs :: pcs :: payload) = _ :=
      State.unitOutcome_of_valid rfl unmatched valid
    rw [handleUnit_of_accept accepted, acceptFrame_of_room (by exact room), new]
  · have fits : [src, dst, seq, hcs, pcs].length ≤ s.cfg.rxBufBytes := Nat.le_add_right 5 _
    obtain ⟨m, run, stored⟩ := receiveUnit_of_fits wf fits
    rw [exec_ack, exec_data, heard_of_listening _ listening, stored, endUnit_of_run run fits,
      handleUnit_of_ackMatch (State.unitOutcome_of_matched rfl (by exact matched))]
    exact ⟨_, rfl, rfl⟩

/-! ### Where bytes are stored (R163, R189) -/

section Buffer
variable {s t : State}

theorem storeByte_rxBuf (b : Byte) (s : State) : (storeByte b s).rxBuf =
    if s.rxLen < s.cfg.rxBufBytes then s.rxBuf.write s.rxLen b else s.rxBuf := by
  unfold storeByte
  split_ifs <;> rfl

/-- A byte is stored at `rx_len`, and nowhere at the capacity. -/
theorem storeByte_read {a : Nat} (b : Byte) (elsewhere : a ≠ s.rxLen ∨ s.cfg.rxBufBytes ≤ s.rxLen) :
    (storeByte b s).rxBuf.read a = s.rxBuf.read a := by
  rw [storeByte_rxBuf]
  split_ifs with room
  · obtain other | atCapacity := elsewhere
    · exact Memory.read_write_ne _ _ _ _ other
    · exact absurd room atCapacity.not_gt
  · rfl

theorem handleHeldUnit_rxBuf {ovf : Bool} (h : handleHeldUnit ovf s = .next t) : t.rxBuf = s.rxBuf := by
  unfold handleHeldUnit at h
  split at h
  · cases h
    exact (handleUnit_buffer _ ovf s).1
  · cases h

theorem endUnit_rxBuf (h : endUnit s = .next t) : t.rxBuf = s.rxBuf :=
  handleHeldUnit_rxBuf (s := { s with rxOvf := false }) h

/-- A received byte is stored where it is data, and otherwise writes nothing into the buffer (R162). -/
theorem unstuffByte_rxBuf {b : Byte} (h : unstuffByte b s = .next t) :
    t.rxBuf = if s.isDataByte b then (storeByte b s).rxBuf else s.rxBuf := by
  cases data : s.isDataByte b with
  | true =>
    rw [unstuffByte_of_isDataByte data] at h
    cases h
    rw [if_pos rfl, storeByte_rxBuf]
    exact storeByte_rxBuf b { s with rxEsc := false }
  | false =>
    simp only [State.isDataByte, Bool.or_eq_false_iff] at data
    obtain ⟨plain, framing⟩ := data
    rw [if_neg Bool.false_ne_true]
    unfold unstuffByte at h
    split_ifs at h with escaped escape sentinel
    · cases plain.symm.trans escaped
    · cases h
      rfl
    · exact endUnit_rxBuf h
    · simp [escape, sentinel] at framing

theorem unstuffByte_read {b : Byte} {a : Nat} (h : unstuffByte b s = .next t)
    (elsewhere : a ≠ s.rxLen ∨ s.cfg.rxBufBytes ≤ s.rxLen) : t.rxBuf.read a = s.rxBuf.read a := by
  rw [unstuffByte_rxBuf h]
  split_ifs
  · exact storeByte_read b elsewhere
  · rfl

/-- RXP's step stores the byte it completes where that is data, and nothing else (R189 to R191). -/
theorem rxpStep_rxBuf (h : rxpStep s = .next t) : t.rxBuf =
    if s.stepStores then (storeByte (shiftIn s.rxShift (isHigh s.cfg s.lineIn)) s).rxBuf else s.rxBuf := by
  obtain ⟨state, rfl⟩ | ⟨-, stopping, rfl⟩ | ⟨-, state, rfl⟩ | ⟨running, state, sampled⟩ | ⟨-, state, delivered⟩ :=
    rxpStep_cases h
  · simp [State.stepStores, State.rxIn, state]
  · simp [State.stepStores, State.rxIn, stopping]
  · have kept : (huntSample s.lineIn s).rxBuf = s.rxBuf := by
      unfold huntSample
      split_ifs <;> rfl
    simp [State.stepStores, State.rxIn, state, kept]
  · have selected : s.rxIn .data = true := (s.rxIn_iff _).mpr ⟨running, state⟩
    rw [dataSample_eq] at sampled
    split_ifs at sampled with point byte
    · rw [unstuffByte_rxBuf sampled]
      simp only [State.stepStores, selected, decide_eq_true point, decide_eq_true byte, Bool.true_and, storeByte_rxBuf]
      rfl
    · cases sampled
      simp [State.stepStores, byte, State.sampled]
    · cases sampled
      simp [State.stepStores, point]
  · obtain ⟨-, rfl⟩ | ⟨-, u, f, -, -, rfl⟩ := deliverHeld_eq_next delivered
    all_goals simp [State.stepStores, State.rxIn, state]

theorem rxpStep_read {a : Nat} (h : rxpStep s = .next t) (elsewhere : a ≠ s.rxLen ∨ s.cfg.rxBufBytes ≤ s.rxLen) :
    t.rxBuf.read a = s.rxBuf.read a := by
  rw [rxpStep_rxBuf h]
  split_ifs
  · exact storeByte_read _ elsewhere
  · rfl

/-- Bytes stored one after the other leave everything past them alone, and everything past the capacity. -/
theorem storeAll_read {a : Nat} (l : List Byte) (s : State) (past : min (s.rxLen + l.length) s.cfg.rxBufBytes ≤ a) :
    (storeAll l s).rxBuf.read a = s.rxBuf.read a := by
  induction l generalizing s with
  | nil => rfl
  | cons b rest ih =>
    rw [List.length_cons] at past
    by_cases room : s.rxLen < s.cfg.rxBufBytes
    · have later : min ((storeByte b s).rxLen + rest.length) (storeByte b s).cfg.rxBufBytes ≤ a := by
        rw [storeByte_of_room b room]
        dsimp only
        omega
      rw [storeAll, ih _ later]
      exact storeByte_read b (.inl (by omega))
    · have later : min ((storeByte b s).rxLen + rest.length) (storeByte b s).cfg.rxBufBytes ≤ a := by
        rw [storeByte_of_full b (not_lt.mp room)]
        dsimp only
        omega
      rw [storeAll, ih _ later]
      exact storeByte_read b (.inr (not_lt.mp room))

end Buffer

/-! ### The operations that store nothing -/

section Untouched
variable {s t : State}

theorem txpStep_rxBuf (h : txpStep s = .next t) : t.rxBuf = s.rxBuf :=
  (congrArg State.rxBuf (txpStep_writes h).frame :)

theorem unstuffByte_rxBuf_of_not_data {b : Byte} (notData : s.isDataByte b = false) (h : unstuffByte b s = .next t) :
    t.rxBuf = s.rxBuf := by
  rw [unstuffByte_rxBuf h, notData, if_neg Bool.false_ne_true]

/-- A framing byte is data only where an escape is pending. -/
theorem State.isDataByte_of_framing {b : Byte} (framing : b = sentinelByte ∨ b = escapeByte) :
    s.isDataByte b = s.rxEsc := by
  obtain rfl | rfl := framing <;> simp [State.isDataByte]

/-- The rows of the framing bytes: they store only where an escape is pending. -/
theorem heard_framing_rxBuf {b : Byte} (framing : b = sentinelByte ∨ b = escapeByte)
    (none : (!s.deaf && s.rxEsc) = false) (h : heard s (unstuffByte b s) = .next t) : t.rxBuf = s.rxBuf := by
  obtain ⟨-, rfl⟩ | ⟨listening, result⟩ := heard_eq_next h
  · rfl
  · rw [listening, Bool.not_false, Bool.true_and, ← State.isDataByte_of_framing framing] at none
    exact unstuffByte_rxBuf_of_not_data none result

theorem reportFailure_rxBuf (h : reportFailure s = .next t) : t.rxBuf = s.rxBuf := by
  unfold reportFailure at h
  split at h <;> cases h
  rfl

theorem execDecode_rxBuf {u : List Byte} (h : execDecode u s = .next t) : t.rxBuf = s.rxBuf := by
  unfold execDecode at h
  split at h <;> cases h
  rfl

theorem rxpStep_rxBuf_of_not_stepStores (none : s.stepStores = false) (h : rxpStep s = .next t) :
    t.rxBuf = s.rxBuf := by
  rw [rxpStep_rxBuf h, none, if_neg Bool.false_ne_true]

/-- An operation that may store nothing leaves the buffer alone, by the operation. -/
theorem exec_rxBuf {i : Instr} (none : mayStore i s = false) (h : exec i s = .next t) : t.rxBuf = s.rxBuf := by
  cases i with
  | store b | reset => cases none
  | slot b =>
    cases h
    rw [slotTick_frame]
  | lvlNeutral | lvlHigh | lvlLow | escSentinel | escEscape | shutdown | tooLong | dcNone | dcOverflow
    | dcUndersized | dcDestinationMismatch | dcSequenceMismatch | dcHeaderChecksum | dcPayloadChecksum
    | dcDuplicate | rxOverflow =>
    cases h
    rfl
  | ok call | wouldBlock call | cancelled call => cases h; cases call <;> rfl
  | checksum buf | stuff buf | encode f | wire f | ackbuild p => cases h; rfl
  | verify f d n => cases h; rfl
  | finalize d n => cases h; rfl
  | decode u => exact execDecode_rxBuf h
  | sentinel =>
    rw [exec_sentinel] at h
    exact heard_framing_rxBuf (.inl rfl) none h
  | escape =>
    rw [exec_escape] at h
    exact heard_framing_rxBuf (.inr rfl) none h
  | literal b =>
    rw [exec_literal] at h
    obtain ⟨-, rfl⟩ | ⟨listening, result⟩ := heard_eq_next h
    · rfl
    · refine unstuffByte_rxBuf_of_not_data ?_ result
      simpa [mayStore, listening] using none
  | unstuff b => exact unstuffByte_rxBuf_of_not_data none h
  | escAny b | data _ _ _ _ _ _ | ack _ _ _ _ _ =>
    obtain ⟨-, rfl⟩ | ⟨listening, -⟩ := heard_eq_next h
    · rfl
    · simp [mayStore, listening] at none
  | send dst payload => exact (congrArg State.rxBuf (execSend_writes h).frame :)
  | recv => exact (congrArg State.rxBuf (execRecv_writes h).frame :)
  | txstIdle | txstSending | txstAwaitingAck | txstFailed | txstHalted | txHalted _ | txHalt _ | txIdleAck
    | txIdleData | txIdleWait | txseq | txSent | txAcked | txWait | txRetransmit | txLimit | txFailed =>
    refine txpStep_rxBuf (s := s) ?_
    simpa using h
  | rxstHunt | rxstData | rxstDeliver | rxstHalted | rxHalted _ | rxHalt _ | rxDeliver | rxhunt | rxdata =>
    refine rxpStep_rxBuf_of_not_stepStores none ?_
    simpa using h
  | unitend => exact endUnit_rxBuf h
  | unit ovf => exact handleHeldUnit_rxBuf h
  | rxUndersized => exact handleHeldUnit_rxBuf (exec_rxUndersized.symm.trans h)
  | rxAckmatch => exact handleHeldUnit_rxBuf ((exec_rxAckmatch s).symm.trans h)
  | rxAccept => exact handleHeldUnit_rxBuf ((exec_rxAccept s).symm.trans h)
  | rxInvalid => exact handleHeldUnit_rxBuf ((exec_rxInvalid s).symm.trans h)
  | rxDuplicate => exact handleHeldUnit_rxBuf ((exec_rxDuplicate s).symm.trans h)
  | deliveryfailed =>
    rw [exec_deliveryfailed, orDispatched] at h
    split_ifs at h
    · exact reportFailure_rxBuf h
    · cases h
      rfl

/-- An operation that stores at most one byte stores it at `rx_len`. -/
theorem exec_read_of_storesAtLength {i : Instr} {a : Nat} (atLength : storesAtLength i = true)
    (h : exec i s = .next t) (elsewhere : a ≠ s.rxLen ∨ s.cfg.rxBufBytes ≤ s.rxLen) :
    t.rxBuf.read a = s.rxBuf.read a := by
  have hears {b : Byte} (h : heard s (unstuffByte b s) = .next t) : t.rxBuf.read a = s.rxBuf.read a := by
    obtain ⟨-, rfl⟩ | ⟨-, result⟩ := heard_eq_next h
    · rfl
    · exact unstuffByte_read result elsewhere
  cases i with
  | store b =>
    cases h
    exact storeByte_read b elsewhere
  | unstuff b => exact unstuffByte_read h elsewhere
  | literal b => exact hears ((exec_literal s b).symm.trans h)
  | sentinel => exact hears ((exec_sentinel s).symm.trans h)
  | escape => exact hears ((exec_escape s).symm.trans h)
  | rxstHunt | rxstData | rxstDeliver | rxstHalted | rxHalted _ | rxHalt _ | rxDeliver | rxhunt | rxdata =>
    refine rxpStep_read ?_ elsewhere
    simpa using h
  | _ => cases atLength

/-- The pair stores at most two bytes, one after the other. -/
theorem exec_escAny_read {b : Byte} {a : Nat} (h : exec (.escAny b) s = .next t) (first : a ≠ s.rxLen)
    (second : a ≠ s.rxLen + 1) : t.rxBuf.read a = s.rxBuf.read a := by
  rw [exec_escAny] at h
  obtain ⟨-, rfl⟩ | ⟨-, pair⟩ := heard_eq_next h
  · rfl
  · obtain ⟨u, escape, rest⟩ := andThen_eq_next.mp pair
    have length : u.rxLen = s.rxLen ∨ u.rxLen = s.rxLen + 1 := by
      cases escaped : s.rxEsc with
      | true =>
        rw [unstuffByte_of_escaped _ escaped] at escape
        cases escape
        unfold storeByte
        split_ifs
        · exact .inr rfl
        · exact .inl rfl
      | false =>
        rw [unstuffByte_escapeByte escaped] at escape
        cases escape
        exact .inl rfl
    rw [← unstuffByte_read escape (.inl first)]
    obtain ⟨-, rfl⟩ | ⟨-, byte⟩ := heard_eq_next rest
    · rfl
    · refine unstuffByte_read byte (.inl ?_)
      obtain same | next := length
      · exact same ▸ first
      · exact next ▸ second

/-- A whole unit is stored from index 0 on. -/
theorem exec_data_read {src dst seq hcs pcs : Byte} {payload : List Byte} {a : Nat}
    (h : exec (.data src dst seq hcs pcs payload) s = .next t)
    (past : min (headerBytes + payload.length) s.cfg.rxBufBytes ≤ a) : t.rxBuf.read a = s.rxBuf.read a := by
  rw [exec_data] at h
  obtain ⟨-, rfl⟩ | ⟨-, stored⟩ := heard_eq_next h
  · rfl
  · rw [endUnit_rxBuf stored]
    refine storeAll_read _ { s with rxLen := 0, rxOvf := false } ?_
    simp only [List.length_cons]
    unfold headerBytes at past
    omega

end Untouched

/-- Settles O19, by the operation. -/
theorem memoryFrame : Obligations.MemoryFrame := by
  intro s t
  refine ⟨fun i none h a => by rw [exec_rxBuf none h], fun h => ?_, fun a =>
    ⟨fun i atLength h elsewhere => exec_read_of_storesAtLength atLength h elsewhere,
      fun b h first second => exec_escAny_read h first second, fun _ _ _ _ _ _ h past => exec_data_read h past,
      fun _ _ _ _ _ h past => exec_data_read h ((Nat.min_le_left _ _).trans past)⟩⟩
  cases h
  rfl

end Sys2Proof.Machine

/-! PROOFS. Bytes without meaning (obligation O18; R23, IU1): every operation commutes with exchanging the buffer, or
reads of it the held unit alone, or writes one byte at `rx_len`; so states that agree below `rx_len` behave alike. -/

namespace Sys2Proof.Machine

/-! ### States with another buffer -/

/-- `s` with another buffer. -/
def State.withBuf (m : Memory) (s : State) : State := { s with rxBuf := m }

section Blind
variable {s t : State}

/-- An update that commutes with exchanging the buffer, leaves the buffer alone and does not extend the unit, keeps
states alike. -/
theorem SameToLength.map (h : SameToLength s t) (g : State → State)
    (commutes : g (s.withBuf t.rxBuf) = (g s).withBuf t.rxBuf) (buffer : (g s).rxBuf = s.rxBuf)
    (length : (g s).rxLen ≤ s.rxLen) : SameToLength (g s) (g t) := by
  have image : g t = (g s).withBuf t.rxBuf := (congrArg g h.registers).trans commutes
  refine ⟨⟨buffer ▸ h.canonical.1, image ▸ h.canonical.2⟩, ?_, fun a before => ?_⟩
  · rw [image]
    rfl
  · rw [image, buffer]
    exact h.bytes a (before.trans_le length)

/-- The same for what may stop. -/
theorem SameToLength.mapResult (h : SameToLength s t) (f : State → Result)
    (commutes : f (s.withBuf t.rxBuf) = onNext (State.withBuf t.rxBuf) (f s))
    (kept : ∀ u, f s = .next u → u.rxBuf = s.rxBuf ∧ u.rxLen ≤ s.rxLen) : SameOutcome (f s) (f t) := by
  have image : f t = onNext (State.withBuf t.rxBuf) (f s) := (congrArg f h.registers).trans commutes
  rw [image]
  cases result : f s with
  | next u =>
    obtain ⟨buffer, length⟩ := kept u result
    exact ⟨⟨buffer ▸ h.canonical.1, h.canonical.2⟩, rfl,
      fun a before => buffer ▸ h.bytes a (before.trans_le length)⟩
  | fault e => exact rfl
  | refused e => exact rfl

theorem SameToLength.rxLen (h : SameToLength s t) : t.rxLen = s.rxLen := (congrArg State.rxLen h.registers :)

theorem SameToLength.cfg (h : SameToLength s t) : t.cfg = s.cfg := (congrArg State.cfg h.registers :)

theorem SameToLength.rxEsc (h : SameToLength s t) : t.rxEsc = s.rxEsc := (congrArg State.rxEsc h.registers :)

theorem SameToLength.deaf (h : SameToLength s t) : t.deaf = s.deaf := (congrArg State.deaf h.registers :)

/-- Sequences of steps that keep states alike keep them alike. -/
theorem SameOutcome.andThen {r r' : Result} {f g : State → Result} (h : SameOutcome r r')
    (next : ∀ s t, SameToLength s t → SameOutcome (f s) (g t)) :
    SameOutcome (Machine.andThen r f) (Machine.andThen r' g) := by
  cases r with
  | next s =>
    cases r' with
    | next t => exact next s t h
    | fault _ | refused _ => exact h.elim
  | fault e =>
    cases r' with
    | fault e' => exact h
    | next _ | refused _ => exact h.elim
  | refused e =>
    cases r' with
    | refused e' => exact h
    | next _ | fault _ => exact h.elim

/-- What is lost on one side is lost on the other. -/
theorem SameToLength.heard (h : SameToLength s t) {r r' : Result} (alike : SameOutcome r r') :
    SameOutcome (Machine.heard s r) (Machine.heard t r') := by
  cases deaf : s.deaf with
  | true =>
    rw [heard_of_deaf r deaf, heard_of_deaf r' (h.deaf.trans deaf)]
    exact h
  | false =>
    rw [heard_of_listening r deaf, heard_of_listening r' (h.deaf.trans deaf)]
    exact alike

/-! ### The unit held -/

theorem Memory.readRun_congr {m m' : Memory} : ∀ n a, (∀ b, b < a + n → m'.read b = m.read b) →
    m'.readRun a n = m.readRun a n
  | 0, _, _ => rfl
  | n + 1, a, same => by
    rw [Memory.readRun, Memory.readRun, same a (by omega),
      Memory.readRun_congr n (a + 1) fun b hb => same b (by omega)]

/-- The held unit lies below `rx_len`. -/
theorem SameToLength.heldUnit (h : SameToLength s t) : (s.withBuf t.rxBuf).heldUnit = s.heldUnit := by
  have run : t.rxBuf.readRun 0 s.rxLen = s.rxBuf.readRun 0 s.rxLen :=
    Memory.readRun_congr _ _ fun a before => h.bytes a (by omega)
  change (if s.rxLen ≤ s.cfg.rxBufBytes then some (t.rxBuf.readRun 0 s.rxLen) else none) = s.heldUnit
  rw [run]
  rfl

section WithBuf
variable (s) (m : Memory)

theorem acceptFrame_withBuf (f : Frame) : acceptFrame f (s.withBuf m) = (acceptFrame f s).withBuf m := by
  unfold acceptFrame
  dsimp only
  rw [apply_ite (State.withBuf m)]
  rfl

theorem dropDuplicate_withBuf (f : Frame) : dropDuplicate f (s.withBuf m) = (dropDuplicate f s).withBuf m := by
  rw [dropDuplicate_eq, dropDuplicate_eq]
  rfl

/-- Once its bytes are known, a unit is handled without the buffer. -/
theorem handleUnit_withBuf (u : List Byte) (ovf : Bool) :
    handleUnit u ovf (s.withBuf m) = (handleUnit u ovf s).withBuf m := by
  have outcome : (s.withBuf m).unitOutcome u = s.unitOutcome u := rfl
  unfold handleUnit
  rw [outcome]
  cases ovf with
  | true => rfl
  | false =>
    cases s.unitOutcome u with
    | undersized | ackMatch | invalid c => rfl
    | accept f => exact acceptFrame_withBuf s m f
    | duplicate f => exact dropDuplicate_withBuf s m f

theorem huntSample_withBuf (v : Int) : huntSample v (s.withBuf m) = (huntSample v s).withBuf m := by
  unfold huntSample
  rw [apply_ite (State.withBuf m), apply_ite (State.withBuf m), apply_ite (State.withBuf m)]
  rfl

theorem slotTick_withBuf (b : Byte) : slotTick b (s.withBuf m) = (slotTick b s).withBuf m := by
  have phase : (s.withBuf m).txPhase = s.txPhase := rfl
  unfold slotTick
  rw [phase]
  cases s.txPhase with
  | guard | start =>
    dsimp only
    rw [apply_ite (State.withBuf m)]
    rfl
  | bit =>
    dsimp only
    rw [apply_ite (State.withBuf m), apply_ite (State.withBuf m)]
    rfl

theorem endTransmission_withBuf : endTransmission (s.withBuf m) = (endTransmission s).withBuf m := by
  cases acknowledgment : s.curIsAck with
  | true =>
    rw [endTransmission_of_ack acknowledgment]
    exact endTransmission_of_ack (s := s.withBuf m) acknowledgment
  | false =>
    rw [endTransmission_of_data acknowledgment]
    exact endTransmission_of_data (s := s.withBuf m) acknowledgment

theorem sequencerStep_withBuf : sequencerStep (s.withBuf m) = onNext (State.withBuf m) (sequencerStep s) := by
  have cur : (s.withBuf m).cur = s.cur := rfl
  have byte : (s.withBuf m).wireByte = s.wireByte := rfl
  unfold sequencerStep
  rw [cur, byte]
  cases s.cur with
  | none => rfl
  | some f =>
    cases s.wireByte with
    | none => rfl
    | some b => exact congrArg Host.Outcome.next (slotTick_withBuf s m b)

theorem reportFailure_withBuf : reportFailure (s.withBuf m) = onNext (State.withBuf m) (reportFailure s) := by
  have cur : (s.withBuf m).cur = s.cur := rfl
  unfold reportFailure
  rw [cur]
  cases s.cur <;> rfl

theorem failFrame_withBuf : failFrame (s.withBuf m) = onNext (State.withBuf m) (failFrame s) := by
  rw [failFrame, reportFailure_withBuf, andThen_onNext, failFrame, onNext, andThen_assoc]
  rfl

/-- TXP's step neither reads nor writes the buffer. -/
theorem txpStep_withBuf : txpStep (s.withBuf m) = onNext (State.withBuf m) (txpStep s) := by
  by_cases halted : s.txState = .halted
  · rw [txpStep_of_halted halted]
    exact txpStep_of_halted (s := s.withBuf m) halted
  cases running : s.shutdown with
  | true =>
    rw [txpStep_of_shutdown halted running]
    exact txpStep_of_shutdown (s := s.withBuf m) halted running
  | false =>
    cases state : s.txState with
    | idle =>
      cases pending : s.pendingAck with
      | some p =>
        rw [txpStep_of_pendingAck running state pending]
        exact txpStep_of_pendingAck (s := s.withBuf m) running state pending
      | none =>
        cases queued : s.outq with
        | nil =>
          rw [txpStep_of_noWork running state pending queued]
          exact txpStep_of_noWork (s := s.withBuf m) running state pending queued
        | cons d rest =>
          rw [txpStep_of_descriptor running state pending queued]
          exact txpStep_of_descriptor (s := s.withBuf m) running state pending queued
    | sending =>
      rw [txpStep_of_sending running state, onNext_ite, onNext_next, ← endTransmission_withBuf,
        ← sequencerStep_withBuf]
      exact txpStep_of_sending (s := s.withBuf m) running state
    | awaitingAck =>
      cases signal : s.ackFlag with
      | true =>
        rw [txpStep_of_ackFlag running state signal]
        exact txpStep_of_ackFlag (s := s.withBuf m) running state signal
      | false =>
        cases timeout : s.timerExpires with
        | false =>
          rw [txpStep_of_timerRuns running state signal timeout]
          exact txpStep_of_timerRuns (s := s.withBuf m) running state signal timeout
        | true =>
          cases left : s.retriesLeft with
          | true =>
            rw [txpStep_of_retriesLeft running state signal timeout left]
            exact txpStep_of_retriesLeft (s := s.withBuf m) running state signal timeout left
          | false =>
            rw [txpStep_of_retriesUsed running state signal timeout left]
            exact txpStep_of_retriesUsed (s := s.withBuf m) running state signal timeout left
    | failed =>
      rw [txpStep_of_failed running state, ← failFrame_withBuf]
      exact txpStep_of_failed (s := s.withBuf m) running state
    | halted => exact absurd state halted

end WithBuf

/-! ### Operations keep states alike -/

theorem SameToLength.txpStep (h : SameToLength s t) : SameOutcome (txpStep s) (txpStep t) :=
  h.mapResult Machine.txpStep (txpStep_withBuf s _) fun _ sends =>
    have frame := (txpStep_writes sends).frame
    ⟨(congrArg State.rxBuf frame :), le_of_eq (congrArg State.rxLen frame :)⟩

theorem SameToLength.handleHeldUnit (h : SameToLength s t) (ovf : Bool) :
    SameOutcome (handleHeldUnit ovf s) (handleHeldUnit ovf t) := by
  refine h.mapResult (Machine.handleHeldUnit ovf) ?_ fun _ handled => ⟨handleHeldUnit_rxBuf handled, ?_⟩
  · unfold Machine.handleHeldUnit
    rw [h.heldUnit]
    cases s.heldUnit with
    | none => rfl
    | some u => exact congrArg Host.Outcome.next (handleUnit_withBuf s _ u ovf)
  · unfold Machine.handleHeldUnit at handled
    split at handled
    · next unit _ =>
      cases handled
      obtain ⟨-, -, ⟨released, -⟩ | ⟨kept, -⟩⟩ := handleUnit_buffer unit ovf s
      · exact released ▸ Nat.zero_le _
      · exact kept.le
    · cases handled

theorem SameToLength.endUnit (h : SameToLength s t) : SameOutcome (endUnit s) (endUnit t) := by
  have mark : t.rxOvf = s.rxOvf := (congrArg State.rxOvf h.registers :)
  have cleared : SameToLength { s with rxOvf := false } { t with rxOvf := false } :=
    h.map (fun s => { s with rxOvf := false }) rfl rfl le_rfl
  rw [Machine.endUnit, Machine.endUnit, mark]
  exact cleared.handleHeldUnit s.rxOvf

/-- The byte stored is the same, and lies right past the bytes that agree (R163). -/
theorem SameToLength.storeByte (h : SameToLength s t) (b : Byte) :
    SameToLength (storeByte b s) (storeByte b t) := by
  have capacity : t.cfg.rxBufBytes = s.cfg.rxBufBytes := by rw [h.cfg]
  by_cases room : s.rxLen < s.cfg.rxBufBytes
  · rw [storeByte_of_room b room, storeByte_of_room b (by rwa [h.rxLen, capacity])]
    refine ⟨⟨Memory.write_wf _ _ _ h.canonical.1, Memory.write_wf _ _ _ h.canonical.2⟩, ?_, fun a before => ?_⟩
    · rw [h.registers]
    · change (t.rxBuf.write t.rxLen b).read a = (s.rxBuf.write s.rxLen b).read a
      rw [h.rxLen]
      by_cases last : a = s.rxLen
      · rw [last, Memory.read_write_same _ _ _ h.canonical.1, Memory.read_write_same _ _ _ h.canonical.2]
      · rw [Memory.read_write_ne _ _ _ _ last, Memory.read_write_ne _ _ _ _ last]
        exact h.bytes a (lt_of_le_of_ne (Nat.le_of_lt_succ before) last)
  · have atCapacity := not_lt.mp room
    rw [storeByte_of_full b atCapacity, storeByte_of_full b (by rwa [h.rxLen, capacity])]
    exact h.map (fun s => { s with rxOvf := true }) rfl rfl le_rfl

theorem SameToLength.withEsc (h : SameToLength s t) (esc : Bool) :
    SameToLength { s with rxEsc := esc } { t with rxEsc := esc } :=
  h.map (fun s => { s with rxEsc := esc }) rfl rfl le_rfl

theorem SameToLength.unstuffByte (h : SameToLength s t) (b : Byte) :
    SameOutcome (unstuffByte b s) (unstuffByte b t) := by
  unfold Machine.unstuffByte
  rw [h.rxEsc]
  split_ifs
  · exact (h.withEsc false).storeByte b
  · exact h.withEsc true
  · exact h.endUnit
  · exact h.storeByte b

theorem SameToLength.storeAll (h : SameToLength s t) (l : List Byte) :
    SameToLength (storeAll l s) (storeAll l t) := by
  induction l generalizing s t with
  | nil => exact h
  | cons b rest ih => exact ih (h.storeByte b)

theorem SameToLength.receiveUnit (h : SameToLength s t) (u : List Byte) :
    SameOutcome (receiveUnit u s) (receiveUnit u t) := by
  have emptied : SameToLength { s with rxLen := 0, rxOvf := false } { t with rxLen := 0, rxOvf := false } :=
    h.map (fun s => { s with rxLen := 0, rxOvf := false }) rfl rfl (Nat.zero_le _)
  exact (emptied.storeAll u).endUnit

theorem SameToLength.dataUnit (h : SameToLength s t) (src dst seq hcs pcs : Byte) (payload : List Byte) :
    SameOutcome (Machine.exec (.data src dst seq hcs pcs payload) s)
      (Machine.exec (.data src dst seq hcs pcs payload) t) := by
  rw [exec_data, exec_data]
  exact h.heard (h.receiveUnit _)

/-- The sampler reads the registers, which agree (R189 to R191). -/
theorem SameToLength.dataSample (h : SameToLength s t) (v : Int) :
    SameOutcome (dataSample v s) (dataSample v t) := by
  have atPoint : (t.rxCnt + 1 = t.samplePoint) = (s.rxCnt + 1 = s.samplePoint) :=
    (congrArg (fun u => u.rxCnt + 1 = u.samplePoint) h.registers :)
  have lastBit : (t.rxBit + 1 = bitsPerByte) = (s.rxBit + 1 = bitsPerByte) :=
    (congrArg (fun u => u.rxBit + 1 = bitsPerByte) h.registers :)
  have byte : shiftIn t.rxShift (isHigh t.cfg v) = shiftIn s.rxShift (isHigh s.cfg v) :=
    (congrArg (fun u => shiftIn u.rxShift (isHigh u.cfg v)) h.registers :)
  rw [dataSample_eq, dataSample_eq]
  by_cases point : s.rxCnt + 1 = s.samplePoint
  · rw [if_pos point, if_pos (atPoint.mpr point)]
    by_cases last : s.rxBit + 1 = bitsPerByte
    · rw [if_pos last, if_pos (lastBit.mpr last), byte]
      refine SameToLength.unstuffByte ?_ _
      exact h.map (fun u => { u.sampled (isHigh u.cfg v) with rxState := .hunt, rxLowCnt := 0 }) rfl rfl le_rfl
    · rw [if_neg last, if_neg (mt lastBit.mp last)]
      exact h.map (fun u => u.sampled (isHigh u.cfg v)) rfl rfl le_rfl
  · rw [if_neg point, if_neg (mt atPoint.mp point)]
    exact h.map (fun u => { u with rxCnt := u.rxCnt + 1 }) rfl rfl le_rfl

theorem SameToLength.deliverHeld (h : SameToLength s t) : SameOutcome (deliverHeld s) (deliverHeld t) := by
  refine h.mapResult Machine.deliverHeld ?_ fun u delivered => ?_
  · unfold Machine.deliverHeld
    rw [h.heldUnit, onNext_ite]
    cases s.heldUnit with
    | none => rfl
    | some u =>
      dsimp only
      cases decodeFrame u <;> rfl
  · obtain ⟨-, rfl⟩ | ⟨-, unit, f, -, -, rfl⟩ := deliverHeld_eq_next delivered
    · exact ⟨rfl, le_rfl⟩
    · exact ⟨rfl, Nat.zero_le _⟩

theorem SameToLength.huntSample (h : SameToLength s t) (v : Int) :
    SameToLength (huntSample v s) (huntSample v t) := by
  refine h.map (Machine.huntSample v) (huntSample_withBuf s _ v) ?_ (le_of_eq ?_)
  all_goals unfold Machine.huntSample
  all_goals split_ifs <;> rfl

theorem SameToLength.rxpStep (h : SameToLength s t) : SameOutcome (rxpStep s) (rxpStep t) := by
  have state : t.rxState = s.rxState := (congrArg State.rxState h.registers :)
  have shutdown : t.shutdown = s.shutdown := (congrArg State.shutdown h.registers :)
  have line : t.getLevel = s.getLevel := (congrArg State.lineIn h.registers :)
  unfold Machine.rxpStep
  rw [state, shutdown, line]
  split_ifs
  · exact h
  · exact h.map State.haltRx rfl rfl le_rfl
  · split
    · exact h.deliverHeld
    · exact h.huntSample _
    · exact h.dataSample _
    · exact h

theorem SameToLength.execSend (h : SameToLength s t) (dst : Byte) (payload : List Byte) :
    SameOutcome (execSend dst payload s) (execSend dst payload t) := by
  refine h.mapResult (Machine.execSend dst payload) ?_ fun u sent => ?_
  · rw [execSend_eq, execSend_eq]
    rfl
  · have frame := (execSend_writes sent).frame
    exact ⟨(congrArg State.rxBuf frame :), le_of_eq (congrArg State.rxLen frame :)⟩

theorem SameToLength.execRecv (h : SameToLength s t) : SameOutcome (execRecv s) (execRecv t) := by
  refine h.mapResult Machine.execRecv ?_ fun u received => ?_
  · have queue : (s.withBuf t.rxBuf).inq = s.inq := rfl
    unfold Machine.execRecv
    rw [queue, onNext_ite]
    cases s.inq <;> rfl
  · have frame := (execRecv_writes received).frame
    exact ⟨(congrArg State.rxBuf frame :), le_of_eq (congrArg State.rxLen frame :)⟩

/-- `RESET` gives both states one and the same buffer (R320). -/
theorem SameToLength.resetRegisters (h : SameToLength s t) : SameToLength s.resetRegisters t.resetRegisters := by
  rw [h.registers]
  exact ⟨⟨Memory.empty_wf, Memory.empty_wf⟩, rfl, fun _ _ => rfl⟩

theorem SameToLength.reportFailure (h : SameToLength s t) : SameOutcome (reportFailure s) (reportFailure t) := by
  refine h.mapResult Machine.reportFailure (reportFailure_withBuf s _) fun u reported =>
    ⟨reportFailure_rxBuf reported, ?_⟩
  unfold Machine.reportFailure at reported
  split at reported <;> cases reported
  exact le_rfl

theorem SameToLength.slotTick (h : SameToLength s t) (b : Byte) : SameToLength (slotTick b s) (slotTick b t) := by
  refine h.map (Machine.slotTick b) (slotTick_withBuf s _ b) ?_ ?_
  · rw [slotTick_frame]
  · rw [slotTick_frame]

/-- Every operation keeps states alike, by the operation. -/
theorem SameToLength.exec (h : SameToLength s t) (i : Instr) : SameOutcome (exec i s) (exec i t) := by
  have present (v : State → FnValue) (blind : v (s.withBuf t.rxBuf) = v s) :
      SameToLength (s.present (v s)) (t.present (v t)) :=
    h.map (fun s => s.present (v s)) (by rw [blind]; rfl) rfl le_rfl
  have label (c : DiscardCause) : SameToLength (s.label c) (t.label c) := h.map (State.label · c) rfl rfl le_rfl
  have answer (call : HostCall) (r : Rsp) : SameToLength (s.answer call r) (t.answer call r) := by
    cases call <;> exact h.map (State.answer · _ r) rfl rfl le_rfl
  cases i with
  | slot b => exact h.slotTick b
  | lvlNeutral => exact h.map (State.setLevel · .neutral) rfl rfl le_rfl
  | lvlHigh => exact h.map (State.setLevel · .high) rfl rfl le_rfl
  | lvlLow => exact h.map (State.setLevel · .low) rfl rfl le_rfl
  | sentinel =>
    rw [exec_sentinel, exec_sentinel]
    exact h.heard (h.unstuffByte _)
  | escape =>
    rw [exec_escape, exec_escape]
    exact h.heard (h.unstuffByte _)
  | literal b =>
    rw [exec_literal, exec_literal]
    exact h.heard (h.unstuffByte b)
  | escAny b =>
    rw [exec_escAny, exec_escAny]
    exact h.heard ((h.unstuffByte _).andThen fun s t h => h.heard (h.unstuffByte b))
  | data src dst seq hcs pcs payload => exact h.dataUnit src dst seq hcs pcs payload
  | ack src dst seq hcs pcs =>
    rw [exec_ack, exec_ack]
    exact h.dataUnit src dst seq hcs pcs []
  | send dst payload => exact h.execSend dst payload
  | recv => exact h.execRecv
  | shutdown => exact h.map (fun s => { s with shutdown := true }) rfl rfl le_rfl
  | reset => exact h.resetRegisters
  | ok call => exact answer call _
  | wouldBlock call => exact answer call _
  | cancelled call => exact answer call _
  | tooLong => exact answer .send _
  | dcNone | dcOverflow | dcUndersized | dcDestinationMismatch | dcSequenceMismatch | dcHeaderChecksum
    | dcPayloadChecksum | dcDuplicate => exact label _
  | escSentinel => exact present (fun _ => .bytes (stuffByte sentinelByte)) rfl
  | escEscape => exact present (fun _ => .bytes (stuffByte escapeByte)) rfl
  | checksum buf => exact present (fun _ => .byte (Machine.checksum buf)) rfl
  | encode f => exact present (fun _ => .bytes (encodeFrame f)) rfl
  | decode u =>
    change SameOutcome (execDecode u s) (execDecode u t)
    unfold execDecode
    cases decodeFrame u with
    | none => exact rfl
    | some f => exact present (fun _ => .frame f) rfl
  | verify f d n => exact present (fun _ => .bool (Machine.verify f d n)) rfl
  | finalize d n => exact present (fun s => .frame (Machine.finalize d s.cfg.myId n)) rfl
  | ackbuild p => exact present (fun s => .frame (Machine.ackbuild p s.cfg.myId)) rfl
  | stuff buf => exact present (fun _ => .bytes (Machine.stuff buf)) rfl
  | wire f => exact present (fun _ => .bytes (Machine.wire f)) rfl
  | txstIdle | txstSending | txstAwaitingAck | txstFailed | txstHalted | txHalted _ | txHalt _ | txIdleAck
    | txIdleData | txIdleWait | txseq | txSent | txAcked | txWait | txRetransmit | txLimit | txFailed =>
    simpa using h.txpStep
  | rxstHunt | rxstData | rxstDeliver | rxstHalted | rxHalted _ | rxHalt _ | rxDeliver | rxhunt | rxdata =>
    simpa using h.rxpStep
  | unstuff b => exact h.unstuffByte b
  | store b => exact h.storeByte b
  | unitend => exact h.endUnit
  | unit ovf => exact h.handleHeldUnit ovf
  | rxOverflow => exact h.map (discardUnit .overflow) rfl rfl (Nat.zero_le _)
  | rxUndersized => simpa only [exec_rxUndersized] using h.handleHeldUnit false
  | rxAckmatch => simpa only [exec_rxAckmatch] using h.handleHeldUnit false
  | rxAccept => simpa only [exec_rxAccept] using h.handleHeldUnit false
  | rxInvalid => simpa only [exec_rxInvalid] using h.handleHeldUnit false
  | rxDuplicate => simpa only [exec_rxDuplicate] using h.handleHeldUnit false
  | deliveryfailed =>
    have selected : t.txIn .failed = s.txIn .failed := (congrArg (State.txIn · .failed) h.registers :)
    rw [exec_deliveryfailed, exec_deliveryfailed, selected]
    cases s.txIn .failed with
    | true => exact h.reportFailure
    | false => exact h

/-! ### Steps keep states alike -/

theorem SameToLength.afterRequest (h : SameToLength s t) (i : Instr) :
    SameToLength (s.afterRequest i) (t.afterRequest i) := by
  refine h.map (State.afterRequest · i) ?_ ?_ (le_of_eq ?_)
  all_goals cases i <;> rfl

theorem SameToLength.runDecoded (h : SameToLength s t) (i : Except DecodeError Instr) :
    SameOutcome (runDecoded i s) (runDecoded i t) := by
  cases i with
  | ok i => exact h.exec i
  | error e => exact rfl

/-- The HOST's turn decodes the request port alone. -/
theorem SameToLength.hostTurn (h : SameToLength s t) : SameOutcome (hostTurn s) (hostTurn t) := by
  have requests : t.hReq = s.hReq := (congrArg State.hReq h.registers :)
  have request : t.hostInstr = s.hostInstr := (congrArg State.hostInstr h.registers :)
  unfold Machine.hostTurn
  by_cases quiet : s.hReq = 0
  · rw [if_pos quiet, if_pos (requests.trans quiet)]
    exact h.map (State.atTurn .rxp) rfl rfl le_rfl
  · rw [if_neg quiet, if_neg (requests ▸ quiet), request]
    cases s.hostInstr with
    | ok i => exact (h.afterRequest i).exec i
    | error e => exact rfl

theorem SameToLength.step (h : SameToLength s t) : SameOutcome (step s) (step t) := by
  cases legal : s.cfg.legal with
  | false =>
    have illegal : t.cfg.legal = false := h.cfg ▸ legal
    simp only [Machine.step, legal, illegal]
    exact rfl
  | true =>
    have legal' : t.cfg.legal = true := h.cfg ▸ legal
    have port : t.opPort = s.opPort := (congrArg State.opPort h.registers :)
    have agent : t.turn = s.turn := (congrArg State.turn h.registers :)
    cases presented : s.opPort with
    | some o =>
      rw [step_presented legal presented, step_presented legal' (port.trans presented)]
      exact SameToLength.runDecoded (h.map (fun s => { s with opPort := none }) rfl rfl le_rfl) _
    | none =>
      have own := port.trans presented
      cases turn : s.turn with
      | line =>
        rw [step_line legal presented turn, step_line legal' own (agent.trans turn)]
        exact h.map State.beginTick rfl rfl le_rfl
      | host =>
        rw [step_host legal presented turn, step_host legal' own (agent.trans turn)]
        exact h.hostTurn
      | rxp =>
        rw [step_rxp legal presented turn, step_rxp legal' own (agent.trans turn)]
        exact SameToLength.rxpStep (h.map (State.atTurn .txp) rfl rfl le_rfl)
      | txp =>
        rw [step_txp legal presented turn, step_txp legal' own (agent.trans turn)]
        exact SameToLength.txpStep (h.map (State.atTurn .line) rfl rfl le_rfl)

end Blind

/-- Settles O18: a step is one operation, and every operation keeps states alike. -/
theorem unreadBytesUnobservable : Obligations.UnreadBytesUnobservable :=
  fun _ _ h => ⟨h.step, h.exec⟩

end Sys2Proof.Machine

/-! PROOFS. Waiting and retransmitting (obligations O51, O52; R217 to R220, R224): a transmission, then a wait of
exactly `ACK_TIMEOUT_TICKS` steps, as often as `MAX_ATTEMPTS` allows. -/

namespace Sys2Proof.Machine

theorem txRun_succ {n : Nat} {s t u : State} (before : txRun n s = .next t) (last : txpStep t = .next u) :
    txRun (n + 1) s = .next u := by
  rw [txRun_add, before, andThen_next, txRun, last]
  rfl

/-! ### The wait (R217) -/

theorem timerExpires_at_limit (s : State) :
    State.timerExpires { s with ackTimer := s.cfg.ackTimeoutTicks - 1 } = true := by
  refine (State.timerExpires_iff _).mpr ?_
  change s.cfg.ackTimeoutTicks ≤ s.cfg.ackTimeoutTicks - 1 + 1
  omega

section Wait
variable {s : State} (legal : s.cfg.legal = true) (running : s.shutdown = false) (waiting : s.txState = .awaitingAck)
  (silent : s.ackFlag = false) (started : s.ackTimer = 0)
include running waiting silent started

/-- Below the limit every step counts the timer and changes nothing else. -/
theorem txRun_waiting : ∀ {k : Nat}, k < s.cfg.ackTimeoutTicks → txRun k s = .next { s with ackTimer := k }
  | 0, _ => by
    have unchanged : { s with ackTimer := 0 } = s := by rw [← started]
    rw [unchanged]
    rfl
  | k + 1, below => by
    have tick := txpStep_of_timerRuns (s := { s with ackTimer := k }) running waiting silent
      ((State.timerExpires_eq_false _).mpr below)
    exact txRun_succ (txRun_waiting (Nat.lt_of_succ_lt below)) tick

include legal

/-- The wait ends with the step that brings the timer to the limit. -/
theorem txRun_timeout {t : State}
    (last : txpStep { s with ackTimer := s.cfg.ackTimeoutTicks - 1 } = .next t) :
    txRun s.cfg.ackTimeoutTicks s = .next t := by
  obtain ⟨-, -, -, -, -, -, limit, -⟩ := Config.legal_facts legal
  have before := txRun_waiting running waiting silent started (Nat.sub_one_lt_of_lt limit)
  have whole := txRun_succ before last
  rwa [Nat.sub_add_cancel limit] at whole

/-- R218: within `MAX_ATTEMPTS` the timeout starts the same frame again. -/
theorem txRun_timeout_of_left (left : s.retry + 1 ≤ s.cfg.maxAttempts) :
    txRun s.cfg.ackTimeoutTicks s = .next
      { s with
        ackTimer := s.cfg.ackTimeoutTicks, retry := s.retry + 1, txWidx := 0, txPhase := .guard, txCnt := 0, txBit := 0
        txState := .sending } := by
  obtain ⟨-, -, -, -, -, -, limit, width, -⟩ := Config.legal_facts legal
  have noWrap : s.retry + 1 < 2 ^ s.cfg.retryBits := by omega
  have retriesLeft : State.retriesLeft { s with ackTimer := s.cfg.ackTimeoutTicks - 1 } = true :=
    (State.retriesLeft_iff _).mpr ((State.retryNext_eq noWrap).trans_le left)
  have last := txpStep_of_retriesLeft (s := { s with ackTimer := s.cfg.ackTimeoutTicks - 1 }) running waiting silent
    (timerExpires_at_limit s) retriesLeft
  rw [retransmit_eq (by exact noWrap)] at last
  dsimp only at last
  rw [Nat.sub_add_cancel limit] at last
  exact txRun_timeout legal running waiting silent started last

/-- R219: past `MAX_ATTEMPTS` the timeout gives the frame up. -/
theorem txRun_timeout_of_used (used : s.retry = s.cfg.maxAttempts) :
    txRun s.cfg.ackTimeoutTicks s = .next
      { s with ackTimer := s.cfg.ackTimeoutTicks, retry := s.retry + 1, txState := .failed } := by
  obtain ⟨-, -, -, -, -, -, limit, width, -⟩ := Config.legal_facts legal
  have noWrap : s.retry + 1 < 2 ^ s.cfg.retryBits := by omega
  have retriesUsed : State.retriesLeft { s with ackTimer := s.cfg.ackTimeoutTicks - 1 } = false :=
    decide_eq_false (by
      rw [State.retryNext_eq (by exact noWrap)]
      change ¬s.retry + 1 ≤ s.cfg.maxAttempts
      omega)
  have last := txpStep_of_retriesUsed (s := { s with ackTimer := s.cfg.ackTimeoutTicks - 1 }) running waiting silent
    (timerExpires_at_limit s) retriesUsed
  rw [giveUp_eq (by exact noWrap)] at last
  dsimp only at last
  rw [Nat.sub_add_cancel limit] at last
  exact txRun_timeout legal running waiting silent started last

end Wait

/-- Settles O51: the steps below the limit count the timer; the step at the limit retransmits or gives up. -/
theorem timeoutIsExact : Obligations.TimeoutIsExact := by
  intro s legal running waiting silent started bound
  refine ⟨fun k => txRun_waiting running waiting silent started, ?_⟩
  split_ifs with left
  · exact ⟨_, txRun_timeout_of_left legal running waiting silent started left, rfl, rfl, rfl, rfl⟩
  · exact ⟨_, txRun_timeout_of_used legal running waiting silent started (by omega), rfl, rfl, rfl, rfl⟩

/-! ### One attempt (R182, R183, R215, R217) -/

/-- `s` waiting for the acknowledgment of `f`, just sent. -/
def State.awaiting (s : State) (f : Frame) : State :=
  { s with txWidx := (wire f).length, lineOut := .neutral, ackTimer := 0, txState := .awaitingAck }

section Attempt
variable {s : State} {f : Frame} (legal : s.cfg.legal = true) (h : AtFirstGuard s f) (data : s.curIsAck = false)
include legal h data

/-- A whole transmission leaves a data frame awaited, with all but the cursor and the line as before. -/
theorem txRun_transmission : txRun ((wire f).length * s.cfg.byteTicks + 1) s = .next (s.awaiting f) := by
  obtain ⟨l, unit⟩ := h.drives_unit legal
  have last := txpStep_of_wireDone (s := s.sequencerAt (wire f).length .guard 0 0 l) h.running h.sending h.frame rfl
  rw [endTransmission_of_data (by exact data), h.sequencerAt_guard] at last
  have sent := unit.run
  rw [unitWave_length, h.sequencerAt_guard] at sent
  exact txRun_succ sent last

/-- The transmission and the wait after it. -/
theorem txRun_attempt {t : State} (waited : txRun s.cfg.ackTimeoutTicks (s.awaiting f) = .next t) :
    txRun ((wire f).length * s.cfg.byteTicks + 1 + s.cfg.ackTimeoutTicks) s = .next t := by
  rw [txRun_add, txRun_transmission legal h data, andThen_next, waited]

variable (silent : s.ackFlag = false)
include silent

/-- An attempt that is not the last leaves TXP at the first guard of the next one. -/
theorem txRun_attempt_of_left (left : s.retry + 1 ≤ s.cfg.maxAttempts) :
    txRun ((wire f).length * s.cfg.byteTicks + 1 + s.cfg.ackTimeoutTicks) s = .next
      { s with lineOut := .neutral, ackTimer := s.cfg.ackTimeoutTicks, retry := s.retry + 1 } := by
  have waited := txRun_timeout_of_left (s := s.awaiting f) legal h.running rfl silent rfl left
  refine txRun_attempt legal h data (waited.trans ?_)
  change Host.Outcome.next { s.sequencerAt 0 .guard 0 0 .neutral with
    ackTimer := s.cfg.ackTimeoutTicks, retry := s.retry + 1, txState := .sending } = _
  rw [h.sequencerAt_guard, ← h.sending, ← h.index]

/-- The last attempt leaves TXP failed. -/
theorem txRun_attempt_of_used (used : s.retry = s.cfg.maxAttempts) :
    txRun ((wire f).length * s.cfg.byteTicks + 1 + s.cfg.ackTimeoutTicks) s = .next
      { s with
        txWidx := (wire f).length, lineOut := .neutral, ackTimer := s.cfg.ackTimeoutTicks, retry := s.retry + 1
        txState := .failed } :=
  txRun_attempt legal h data (txRun_timeout_of_used (s := s.awaiting f) legal h.running rfl silent rfl used)

end Attempt

/-! ### All attempts (R224) -/

/-- `s` after some attempts: only the line, the timer and the retry count differ. -/
def State.afterAttempts (s : State) (retry : Nat) (l : Level) (timer : Nat) : State :=
  { s with lineOut := l, ackTimer := timer, retry := retry }

theorem AtFirstGuard.afterAttempts {s : State} {f : Frame} (h : AtFirstGuard s f) (retry : Nat) (l : Level)
    (timer : Nat) : AtFirstGuard (s.afterAttempts retry l timer) f :=
  ⟨h.running, h.sending, h.frame, h.index, h.phase, h.count, h.bit⟩

/-- Attempt `j` begins after `j` periods. -/
theorem txRun_attempts {s : State} {f : Frame} {P : Nat} (legal : s.cfg.legal = true) (h : AtFirstGuard s f)
    (data : s.curIsAck = false) (silent : s.ackFlag = false) (first : s.retry = 0)
    (period : P = (wire f).length * s.cfg.byteTicks + 1 + s.cfg.ackTimeoutTicks) :
    ∀ j, j ≤ s.cfg.maxAttempts → ∃ l timer, txRun (j * P) s = .next (s.afterAttempts j l timer)
  | 0, _ => by
    refine ⟨s.lineOut, s.ackTimer, ?_⟩
    have unchanged : s.afterAttempts 0 s.lineOut s.ackTimer = s := by rw [State.afterAttempts, ← first]
    rw [Nat.zero_mul, unchanged]
    rfl
  | j + 1, within => by
    obtain ⟨l, timer, run⟩ := txRun_attempts legal h data silent first period j (Nat.le_of_succ_le within)
    have attempt := txRun_attempt_of_left (s := s.afterAttempts j l timer) legal (h.afterAttempts j l timer) data
      silent within
    refine ⟨.neutral, s.cfg.ackTimeoutTicks, ?_⟩
    rw [Nat.succ_mul, txRun_add, run, andThen_next, period]
    exact attempt

/-- `s` after the last attempt to send `f`. -/
def State.exhausted (s : State) (f : Frame) : State :=
  { s with
    txWidx := (wire f).length, lineOut := .neutral, ackTimer := s.cfg.ackTimeoutTicks
    retry := s.cfg.maxAttempts + 1, txState := .failed }

/-- R220: the step after the last attempt reports the frame and goes on. -/
theorem txpStep_exhausted {s : State} {f : Frame} (h : AtFirstGuard s f) :
    txpStep (s.exhausted f) =
      .next ((s.exhausted f).raiseDeliveryFailed f.destination f.sequenceNumber).resumeAfterFailure := by
  have frame : (s.exhausted f).cur = some f := h.frame
  rw [txpStep_of_failed (by exact h.running) rfl, failFrame, reportFailure, frame]
  rfl

/-- Settles O52: induction over the attempts; the last one fails, is reported, and frees TXP. -/
theorem attemptsExhausted : Obligations.AttemptsExhausted := by
  intro s f P legal h data silent first period
  refine ⟨fun j within => ?_, ?_⟩
  · obtain ⟨l, timer, run⟩ := txRun_attempts legal h data silent first period j within
    have again := h.afterAttempts j l timer
    exact ⟨_, run, again, rfl, (transmissionWaveform (s.afterAttempts j l timer) f legal again).1⟩
  · obtain ⟨l, timer, run⟩ := txRun_attempts legal h data silent first period _ le_rfl
    have failing := txRun_attempt_of_used (s := s.afterAttempts s.cfg.maxAttempts l timer) legal
      (h.afterAttempts _ l timer) data silent rfl
    have exhausted : txRun ((s.cfg.maxAttempts + 1) * P) s = .next (s.exhausted f) := by
      rw [Nat.succ_mul, txRun_add, run, andThen_next, period]
      exact failing
    exact ⟨s.exhausted f, exhausted, rfl, rfl, h.frame, rfl, _, txpStep_exhausted h, rfl, rfl, rfl, rfl, rfl, rfl, rfl,
      fun d rest noAck queued => ⟨_, txpStep_of_descriptor h.running rfl noAck queued, rfl, rfl, rfl⟩⟩

end Sys2Proof.Machine

/-! PROOFS. The sampler (obligations O39, O43, O44; R184, R186 to R191): a driven level is classified as itself, so the
intervals of a slot are sampled as the bits they drive. -/

namespace Sys2Proof.Machine

/-! ### Levels (R186) -/

section Levels
variable {c : Config} (legal : c.legal = true)
include legal

/-- Under a legal configuration LOW alone is read as low. -/
theorem isLow_voltage (l : Level) : isLow c (voltage c l) = decide (l = .low) := by
  obtain ⟨-, -, -, -, -, -, -, -, low, neutral, neutral', high⟩ := Config.legal_facts legal
  cases l with
  | neutral => exact decide_eq_false (by change ¬c.vNeutral < c.thLow; omega)
  | high => exact decide_eq_false (by change ¬c.vHigh < c.thLow; omega)
  | low => exact decide_eq_true low

/-- Under a legal configuration HIGH alone is read as high. -/
theorem isHigh_voltage (l : Level) : isHigh c (voltage c l) = decide (l = .high) := by
  obtain ⟨-, -, -, -, -, -, -, -, low, neutral, neutral', high⟩ := Config.legal_facts legal
  cases l with
  | neutral => exact decide_eq_false (by change ¬c.thHigh < c.vNeutral; omega)
  | high => exact decide_eq_true high
  | low => exact decide_eq_false (by change ¬c.thHigh < c.vLow; omega)

/-- A data bit is read back from the level it drives (R184). -/
theorem isHigh_levelOfBit (bit : Bool) : isHigh c (voltage c (levelOfBit bit)) = bit := by
  rw [isHigh_voltage legal]
  cases bit <;> rfl

end Levels

/-- Settles O39: the rows set the level, and each level is classified by `isLow_voltage` and `isHigh_voltage`. -/
theorem levelRowsDrive : Obligations.LevelRowsDrive :=
  fun _ => ⟨rfl, rfl, rfl, fun legal =>
    ⟨isLow_voltage legal .low, isHigh_voltage legal .low, isLow_voltage legal .neutral, isHigh_voltage legal .neutral,
      isLow_voltage legal .high, isHigh_voltage legal .high⟩⟩

/-! ### Samples while hunting (R187) -/

section Hunting
variable {s : State} (running : s.shutdown = false) (hunting : s.rxState = .hunt)
include running hunting

theorem rxpStep_hunt_low (low : isLow s.cfg s.lineIn = true) :
    rxpStep s = .next { s with rxLowCnt := min (s.rxLowCnt + 1) s.cfg.dwellTicks } := by
  rw [rxpStep_of_hunt running hunting, huntSample]
  exact congrArg Host.Outcome.next (if_pos low)

theorem rxpStep_hunt_start (notLow : isLow s.cfg s.lineIn = false) (high : isHigh s.cfg s.lineIn = true)
    (dwelt : s.cfg.dwellTicks ≤ s.rxLowCnt) :
    rxpStep s = .next { s with rxState := .data, rxCnt := 0, rxBit := 0, rxShift := 0, rxLowCnt := 0 } := by
  rw [rxpStep_of_hunt running hunting, huntSample, State.getLevel, notLow, high, if_pos dwelt]
  rfl

theorem rxpStep_hunt_noise (notLow : isLow s.cfg s.lineIn = false)
    (noStart : isHigh s.cfg s.lineIn = false ∨ s.rxLowCnt < s.cfg.dwellTicks) :
    rxpStep s = .next { s with rxLowCnt := 0 } := by
  rw [rxpStep_of_hunt running hunting, huntSample, State.getLevel, notLow]
  obtain notHigh | short := noStart
  · rw [notHigh]
    rfl
  · rw [if_neg short.not_ge, ite_self]
    rfl

end Hunting

/-- The bit enters at the right (R189). -/
theorem shiftIn_isHigh (sh : Byte) (c : Config) (v : Int) :
    shiftIn sh (isHigh c v) = (sh <<< 1) ||| if c.thHigh < v then 1 else 0 := by
  unfold shiftIn
  split_ifs with high
  · rw [show isHigh c v = true from decide_eq_true high]
    rfl
  · rw [show isHigh c v = false from decide_eq_false high]
    rfl

/-- Settles O43: the cases of a hunted sample and of `dataSample`. -/
theorem samplerRules : Obligations.SamplerRules := by
  intro s running
  simp only [exec_rxhunt, exec_rxdata, exec_unstuff]
  refine ⟨fun hunting => ?_, fun receiving => ?_⟩
  · refine ⟨fun low => ?_, fun notLow high dwelt => ?_, fun notLow noStart => ?_⟩
    · exact rxpStep_hunt_low running hunting (decide_eq_true low)
    · exact rxpStep_hunt_start running hunting (decide_eq_false notLow.not_gt) (decide_eq_true high) dwelt
    · exact rxpStep_hunt_noise running hunting (decide_eq_false notLow.not_gt)
        (noStart.imp_left fun notHigh => decide_eq_false notHigh.not_gt)
  · rw [rxpStep_of_data running receiving, dataSample_eq]
    refine ⟨fun between => if_neg between, fun point sh shifted => ?_⟩
    have taken : shiftIn s.rxShift (isHigh s.cfg s.getLevel) = sh := (shiftIn_isHigh _ _ _).trans shifted.symm
    rw [if_pos (show s.rxCnt + 1 = s.samplePoint from point), State.sampled, taken]
    refine ⟨fun notLast => if_neg (mt Nat.succ_inj.mp notLast), fun last => ?_⟩
    rw [last]
    exact ⟨rfl, fun within => unstuffByte_completes sh (by exact within)⟩

/-! ### Runs of samples -/

theorem rxRun_append (l l' : List Int) (s : State) : rxRun (l ++ l') s = andThen (rxRun l s) (rxRun l') := by
  induction l generalizing s with
  | nil => rfl
  | cons v rest ih =>
    rw [List.cons_append, rxRun, rxRun, andThen_assoc]
    exact congrArg (andThen (rxpStep { s with lineIn := v })) (funext ih)

/-! ### Inside a byte (R189 to R191) -/

/-- `s` with RXP inside a byte, on the line level `v`. -/
def State.inByte (s : State) (v : Int) (cnt bit : Nat) (shift : Byte) : State :=
  { s with lineIn := v, rxState := .data, rxCnt := cnt, rxBit := bit, rxShift := shift, rxLowCnt := 0 }

/-- `s` with RXP hunting again, at the sample point that completed `b`. -/
def State.byteDone (s : State) (v : Int) (b : Byte) : State :=
  { s with
    lineIn := v, rxState := .hunt, rxCnt := 8 * s.cfg.pulseTicks + s.cfg.sampleOffset, rxBit := 8, rxShift := b
    rxLowCnt := 0 }

section InByte
variable {s : State} {v : Int} {cnt bit : Nat} {shift : Byte} (running : s.shutdown = false)
include running

theorem rxpStep_inByte : rxpStep (s.inByte v cnt bit shift) = dataSample v (s.inByte v cnt bit shift) :=
  rxpStep_of_data (by exact running) rfl

theorem rxpStep_inByte_between (between : cnt + 1 ≠ (bit + 1) * s.cfg.pulseTicks + s.cfg.sampleOffset) :
    rxpStep (s.inByte v cnt bit shift) = .next (s.inByte v (cnt + 1) bit shift) := by
  rw [rxpStep_inByte running, dataSample_eq]
  exact if_neg between

theorem rxpStep_inByte_point (point : cnt + 1 = (bit + 1) * s.cfg.pulseTicks + s.cfg.sampleOffset)
    (notLast : bit < 7) :
    rxpStep (s.inByte v cnt bit shift) =
      .next (s.inByte v (cnt + 1) (bit + 1) (shiftIn shift (isHigh s.cfg v))) := by
  have more : (s.inByte v cnt bit shift).rxBit + 1 ≠ bitsPerByte := (Nat.add_lt_add_right notLast 1).ne
  rw [rxpStep_inByte running, dataSample_eq, if_neg more]
  exact if_pos point

theorem rxpStep_inByte_last (point : cnt + 1 = 8 * s.cfg.pulseTicks + s.cfg.sampleOffset) :
    rxpStep (s.inByte v cnt 7 shift) =
      unstuffByte (shiftIn shift (isHigh s.cfg v)) (s.byteDone v (shiftIn shift (isHigh s.cfg v))) := by
  have last : (s.inByte v cnt 7 shift).rxBit + 1 = bitsPerByte := rfl
  rw [rxpStep_inByte running, dataSample_eq, if_pos last, State.byteDone, ← point]
  exact if_pos point

/-- Below the next sample point every tick only counts (R189). -/
theorem rxRun_inByte_between : ∀ {n cnt : Nat}, cnt + n < (bit + 1) * s.cfg.pulseTicks + s.cfg.sampleOffset →
    rxRun (List.replicate n v) (s.inByte v cnt bit shift) = .next (s.inByte v (cnt + n) bit shift)
  | 0, _, _ => rfl
  | n + 1, cnt, below => by
    change andThen (rxpStep (s.inByte v cnt bit shift)) (rxRun (List.replicate n v)) = _
    rw [rxpStep_inByte_between running (by omega), andThen_next, rxRun_inByte_between (by omega),
      show cnt + 1 + n = cnt + (n + 1) by omega]

/-- The samples of an interval up to its sample point, from the last tick of the interval before. -/
theorem rxRun_inByte_toPoint {v' : Int} (before : cnt + 1 = (bit + 1) * s.cfg.pulseTicks) :
    rxRun (List.replicate (s.cfg.sampleOffset + 1) v) (s.inByte v' cnt bit shift) =
      rxpStep (s.inByte v (cnt + s.cfg.sampleOffset) bit shift) := by
  change rxRun (List.replicate (s.cfg.sampleOffset + 1) v) (s.inByte v cnt bit shift) = _
  rw [List.replicate_add, rxRun_append, rxRun_inByte_between running (by omega), andThen_next]
  change andThen (rxpStep (s.inByte v (cnt + s.cfg.sampleOffset) bit shift)) .next = _
  cases rxpStep (s.inByte v (cnt + s.cfg.sampleOffset) bit shift) <;> rfl

variable (legal : s.cfg.legal = true)
include legal

/-- An interval that is not the last has its bit shifted in (R189, R190). -/
theorem rxRun_interval {v' : Int} (before : cnt + 1 = (bit + 1) * s.cfg.pulseTicks) (notLast : bit < 7) :
    rxRun (List.replicate s.cfg.pulseTicks v) (s.inByte v' cnt bit shift) =
      .next (s.inByte v (cnt + s.cfg.pulseTicks) (bit + 1) (shiftIn shift (isHigh s.cfg v))) := by
  obtain ⟨-, -, -, -, offset, -⟩ := Config.legal_facts legal
  have parts : s.cfg.pulseTicks = s.cfg.sampleOffset + 1 + (s.cfg.pulseTicks - s.cfg.sampleOffset - 1) := by omega
  have nextPoint : (bit + 1 + 1) * s.cfg.pulseTicks = (bit + 1) * s.cfg.pulseTicks + s.cfg.pulseTicks :=
    Nat.succ_mul _ _
  rw [parts, List.replicate_add, rxRun_append, rxRun_inByte_toPoint running before,
    rxpStep_inByte_point running (by omega) notLast, andThen_next, rxRun_inByte_between running (by omega)]
  congr 2
  omega

/-- The last interval completes the byte at its sample point; the rest of it is hunted (R191). -/
theorem rxRun_lastInterval {v' : Int} (before : cnt + 1 = 8 * s.cfg.pulseTicks) :
    rxRun (List.replicate s.cfg.pulseTicks v) (s.inByte v' cnt 7 shift) =
      andThen (unstuffByte (shiftIn shift (isHigh s.cfg v)) (s.byteDone v (shiftIn shift (isHigh s.cfg v))))
        (rxRun (List.replicate (s.cfg.pulseTicks - s.cfg.sampleOffset - 1) v)) := by
  obtain ⟨-, -, -, -, offset, -⟩ := Config.legal_facts legal
  have parts : List.replicate s.cfg.pulseTicks v = List.replicate (s.cfg.sampleOffset + 1) v ++
      List.replicate (s.cfg.pulseTicks - s.cfg.sampleOffset - 1) v := by
    rw [List.replicate_append_replicate]
    congr 1
    omega
  rw [parts, rxRun_append, rxRun_inByte_toPoint running before, rxpStep_inByte_last running (by omega)]

end InByte

/-- Shifting in bit `m` below the bits above it (R189). -/
theorem shiftIn_getLsbD (b : Byte) (m : Nat) : shiftIn (b >>> (m + 1)) (b.getLsbD m) = b >>> m := by
  ext i hi
  cases i with
  | zero => simp [shiftIn]
  | succ i => simp [shiftIn, Nat.add_assoc, Nat.add_comm 1 i]

/-- The intervals of bits `m` down to 0, with the bits above them shifted in (R189 to R191). -/
theorem rxRun_bits {s : State} (legal : s.cfg.legal = true) (running : s.shutdown = false) (b : Byte) :
    ∀ m cnt v', m ≤ 7 → cnt + 1 = (8 - m) * s.cfg.pulseTicks →
      rxRun ((List.range (m + 1)).reverse.flatMap fun k =>
          List.replicate s.cfg.pulseTicks (voltage s.cfg (levelOfBit (b.getLsbD k))))
        (s.inByte v' cnt (7 - m) (b >>> (m + 1))) =
      andThen (unstuffByte b (s.byteDone (voltage s.cfg (levelOfBit (b.getLsbD 0))) b))
        (rxRun (List.replicate (s.cfg.pulseTicks - s.cfg.sampleOffset - 1)
          (voltage s.cfg (levelOfBit (b.getLsbD 0))))) := by
  intro m
  induction m with
  | zero =>
    intro cnt v' _ before
    have last := rxRun_lastInterval (v := voltage s.cfg (levelOfBit (b.getLsbD 0))) (shift := b >>> (0 + 1))
      (v' := v') running legal before
    rw [isHigh_levelOfBit legal, shiftIn_getLsbD, BitVec.ushiftRight_zero] at last
    simpa using last
  | succ m ih =>
    intro cnt v' within before
    have more : (8 - m) * s.cfg.pulseTicks = (8 - (m + 1)) * s.cfg.pulseTicks + s.cfg.pulseTicks := by
      rw [← Nat.succ_mul, show Nat.succ (8 - (m + 1)) = 8 - m by omega]
    rw [List.range_succ, List.reverse_concat, List.flatMap_cons, rxRun_append,
      rxRun_interval running legal (before.trans (by rw [show 8 - (m + 1) = 7 - (m + 1) + 1 by omega])) (by omega),
      andThen_next, isHigh_levelOfBit legal, shiftIn_getLsbD, show 7 - (m + 1) + 1 = 7 - m by omega]
    exact ih _ _ (by omega) (by omega)

/-! ### A slot (R103, R187) -/

/-- `s` with a low count, on a LOW line. -/
def State.dwelling (s : State) (n : Nat) : State :=
  { s with lineIn := s.cfg.vLow, rxLowCnt := min n s.cfg.dwellTicks }

section Slot
variable {s : State} (legal : s.cfg.legal = true) (running : s.shutdown = false)
include legal running

section Guard
variable (hunting : s.rxState = .hunt)
include hunting

/-- LOW samples dwell. -/
theorem rxRun_dwelling : ∀ n k, rxRun (List.replicate n s.cfg.vLow) (s.dwelling k) = .next (s.dwelling (k + n))
  | 0, _ => rfl
  | n + 1, k => by
    have sample : rxpStep (s.dwelling k) = .next (s.dwelling (k + 1)) := by
      rw [rxpStep_hunt_low (s := s.dwelling k) running hunting (isLow_voltage legal .low)]
      simp only [State.dwelling, Nat.min_def]
      congr 2
      split_ifs <;> omega
    change andThen (rxpStep (s.dwelling k)) (rxRun (List.replicate n s.cfg.vLow)) = _
    rw [sample, andThen_next, rxRun_dwelling n (k + 1), Nat.add_assoc, Nat.add_comm 1 n]

/-- The guard interval gives the full dwell. -/
theorem rxRun_guard : rxRun (List.replicate s.cfg.guardTicks s.cfg.vLow) s = .next (s.dwelling s.cfg.dwellTicks) := by
  obtain ⟨-, -, dwell, guard, -⟩ := Config.legal_facts legal
  obtain ⟨n, more⟩ := Nat.exists_eq_add_of_le' (dwell.trans guard)
  have first : rxpStep { s with lineIn := s.cfg.vLow } = .next (s.dwelling (s.rxLowCnt + 1)) :=
    rxpStep_hunt_low (s := { s with lineIn := s.cfg.vLow }) running hunting (isLow_voltage legal .low)
  rw [more, List.replicate_succ, rxRun, first, andThen_next, rxRun_dwelling legal running hunting]
  simp only [State.dwelling]
  congr 2
  omega

end Guard

/-- The start interval begins the byte and brings RXP to the first data interval. -/
theorem rxRun_start (hunting : s.rxState = .hunt) :
    rxRun (List.replicate s.cfg.pulseTicks s.cfg.vHigh) (s.dwelling s.cfg.dwellTicks) =
      .next (s.inByte s.cfg.vHigh (s.cfg.pulseTicks - 1) 0 0) := by
  obtain ⟨-, pulse, -⟩ := Config.legal_facts legal
  obtain ⟨n, more⟩ := Nat.exists_eq_add_of_le' (Nat.one_le_of_lt pulse)
  have first : rxpStep { s.dwelling s.cfg.dwellTicks with lineIn := s.cfg.vHigh } =
      .next (s.inByte s.cfg.vHigh 0 0 0) :=
    rxpStep_hunt_start (s := { s.dwelling s.cfg.dwellTicks with lineIn := s.cfg.vHigh }) running hunting
      (isLow_voltage legal .high) (isHigh_voltage legal .high) (Nat.min_self _).ge
  rw [more, List.replicate_succ, rxRun, first, andThen_next, rxRun_inByte_between running (by omega), Nat.zero_add]
  rfl

/-- The slot of `b` hands `b` to the framer. -/
theorem rxRun_slot (hunting : s.rxState = .hunt) (b : Byte) :
    rxRun ((slotWave s.cfg b).map (voltage s.cfg)) s =
      andThen (unstuffByte b (s.byteDone (voltage s.cfg (levelOfBit (b.getLsbD 0))) b))
        (rxRun (List.replicate (s.cfg.pulseTicks - s.cfg.sampleOffset - 1)
          (voltage s.cfg (levelOfBit (b.getLsbD 0))))) := by
  obtain ⟨-, pulse, -⟩ := Config.legal_facts legal
  have bits := rxRun_bits legal running b 7 (s.cfg.pulseTicks - 1) s.cfg.vHigh le_rfl (by omega)
  have empty : b >>> (7 + 1) = 0 := BitVec.ushiftRight_eq_zero le_rfl
  rw [empty] at bits
  rw [slotWave, List.map_append, List.map_append, List.map_replicate, List.map_replicate, dataWave, List.map_flatMap,
    List.append_assoc, rxRun_append]
  simp only [List.map_replicate]
  rw [show voltage s.cfg .low = s.cfg.vLow from rfl, rxRun_guard legal running hunting, andThen_next, rxRun_append,
    show voltage s.cfg .high = s.cfg.vHigh from rfl, rxRun_start legal running hunting, andThen_next]
  exact bits

end Slot

/-- Settles O44: the guard dwells, the start begins the byte, and each data interval is sampled as its bit. -/
theorem receiverReadsSlot : Obligations.ReceiverReadsSlot := by
  intro s b legal running hunting
  rw [rxRun_slot legal running hunting, State.byteDone, ← hunting]

end Sys2Proof.Machine

/-! PROOFS. From the waveform to the queue (obligation O45; R102, R165, R187 to R191, R245, R246): byte after byte, a
hunting receiver shown the slots of a stuffed unit stores that unit; the sentinel's slot ends it. -/

namespace Sys2Proof.Machine

/-! ### The sampler's registers -/

/-- `s` with the registers of the sampler as in `u`: everything else is the framer's and the paths'. -/
def State.withSampler (u s : State) : State :=
  { s with
    lineIn := u.lineIn, rxCnt := u.rxCnt, rxBit := u.rxBit, rxShift := u.rxShift, rxLowCnt := u.rxLowCnt }

theorem State.withSampler_withSampler (u v s : State) : u.withSampler (v.withSampler s) = u.withSampler s := rfl

@[simp] theorem State.withSampler_cfg (u s : State) : (u.withSampler s).cfg = s.cfg := rfl

/-- At its sample point the last bit of a byte has changed the sampler alone. -/
theorem byteDone_eq_withSampler {s : State} {b : Byte} (v : Int) (hunting : s.rxState = .hunt) :
    s.byteDone v b = (s.byteDone v b).withSampler s := by
  unfold State.byteDone State.withSampler
  rw [← hunting]

/-- The framer's storing does not touch the sampler. -/
theorem storeByte_withSampler (b : Byte) (u s : State) :
    storeByte b (u.withSampler s) = u.withSampler (storeByte b s) := by
  unfold storeByte
  rw [apply_ite u.withSampler]
  rfl

theorem storeAll_withSampler (l : List Byte) (u s : State) :
    storeAll l (u.withSampler s) = u.withSampler (storeAll l s) := by
  induction l generalizing s with
  | nil => rfl
  | cons b rest ih => rw [storeAll, storeAll, storeByte_withSampler, ih]

@[simp] theorem storeByte_rxState (b : Byte) (s : State) : (storeByte b s).rxState = s.rxState := by
  unfold storeByte
  split_ifs <;> rfl

@[simp] theorem storeByte_shutdown (b : Byte) (s : State) : (storeByte b s).shutdown = s.shutdown := by
  unfold storeByte
  split_ifs <;> rfl

@[simp] theorem storeByte_cfg (b : Byte) (s : State) : (storeByte b s).cfg = s.cfg := by
  unfold storeByte
  split_ifs <;> rfl

/-! ### The line form of bytes -/

/-- What the line shows of the wire bytes `bs` (R102). -/
def lineForm (c : Config) (bs : List Byte) : List Int := (bs.flatMap (slotWave c)).map (voltage c)

theorem lineForm_append (c : Config) (bs bs' : List Byte) :
    lineForm c (bs ++ bs') = lineForm c bs ++ lineForm c bs' := by
  rw [lineForm, List.flatMap_append, List.map_append]
  rfl

theorem lineForm_singleton (c : Config) (b : Byte) :
    lineForm c [b] = (slotWave c b).map (voltage c) := by
  rw [lineForm, List.flatMap_singleton]

/-- RXP hunts, and nothing stops it. -/
structure Hunting (s : State) : Prop where
  legal : s.cfg.legal = true
  running : s.shutdown = false
  state : s.rxState = .hunt

section Samples
variable {s t : State} (h : Hunting s)
include h

theorem Hunting.withSampler (u : State) : Hunting (u.withSampler s) := ⟨h.legal, h.running, h.state⟩

theorem Hunting.storeByte (b : Byte) : Hunting (storeByte b s) :=
  ⟨by rw [storeByte_cfg, h.legal], by rw [storeByte_shutdown, h.running], by rw [storeByte_rxState, h.state]⟩

/-- A sample of a level that is low, or that finds no dwell, moves the sampler alone (R187). -/
theorem Hunting.sample (l : Level) (noDwell : l = .low ∨ s.rxLowCnt = 0) :
    ∃ u, rxpStep { s with lineIn := voltage s.cfg l } = .next (State.withSampler u s) ∧
      (l = .low ∨ u.rxLowCnt = 0) := by
  obtain ⟨-, -, dwell, -⟩ := Config.legal_facts h.legal
  by_cases low : l = .low
  · have isLow : isLow s.cfg (voltage s.cfg l) = true := by rw [isLow_voltage h.legal, low]; rfl
    exact ⟨{ s with lineIn := voltage s.cfg l, rxLowCnt := min (s.rxLowCnt + 1) s.cfg.dwellTicks },
      rxpStep_hunt_low (s := { s with lineIn := voltage s.cfg l }) h.running h.state isLow, .inl low⟩
  · have notLow : isLow s.cfg (voltage s.cfg l) = false := by rw [isLow_voltage h.legal, decide_eq_false low]
    have short : s.rxLowCnt < s.cfg.dwellTicks := (noDwell.resolve_left low).trans_lt dwell
    exact ⟨{ s with lineIn := voltage s.cfg l, rxLowCnt := 0 },
      rxpStep_hunt_noise (s := { s with lineIn := voltage s.cfg l }) h.running h.state notLow (.inr short), .inr rfl⟩

/-- The rest of a last interval is hunted through. -/
theorem Hunting.rxRun_rest (l : Level) (noDwell : l = .low ∨ s.rxLowCnt = 0) : ∀ n,
    ∃ u, rxRun (List.replicate n (voltage s.cfg l)) s = .next (State.withSampler u s) := by
  intro n
  induction n generalizing s with
  | zero => exact ⟨s, rfl⟩
  | succ n ih =>
    obtain ⟨v, sampled, noDwell'⟩ := h.sample l noDwell
    obtain ⟨u, rest⟩ := ih (h.withSampler v) noDwell'
    refine ⟨u, ?_⟩
    rw [List.replicate_succ, rxRun, sampled, andThen_next]
    exact rest

/-- A slot whose byte the framer takes without leaving `Hunt` has exactly that effect, but on the sampler. -/
theorem Hunting.rxRun_byte {b : Byte} (taken : ∀ v, unstuffByte b (State.withSampler v s) = .next (v.withSampler t))
    (ready : Hunting t) (config : t.cfg = s.cfg) :
    ∃ u, rxRun (lineForm s.cfg [b]) s = .next (State.withSampler u t) := by
  obtain ⟨u, rest⟩ := (ready.withSampler (s.byteDone (voltage s.cfg (levelOfBit (b.getLsbD 0))) b)).rxRun_rest
    (levelOfBit (b.getLsbD 0)) (.inr rfl) (s.cfg.pulseTicks - s.cfg.sampleOffset - 1)
  refine ⟨u, ?_⟩
  rw [lineForm_singleton, rxRun_slot h.legal h.running h.state, byteDone_eq_withSampler _ h.state, taken, andThen_next]
  rwa [State.withSampler_withSampler, State.withSampler_cfg, config] at rest

/-- The slots of a stuffed byte store it: those of an escape arm the framer before. -/
theorem Hunting.rxRun_stuffByte (plain : s.rxEsc = false) (b : Byte) :
    ∃ u, rxRun (lineForm s.cfg (stuffByte b)) s = .next (State.withSampler u (Machine.storeByte b s)) := by
  cases framing : isFramingByte b with
  | true =>
    have armed : Hunting { s with rxEsc := true } := ⟨h.legal, h.running, h.state⟩
    have disarmed : { s with rxEsc := false } = s := by rw [← plain]
    obtain ⟨v, escape⟩ := h.rxRun_byte (fun v => unstuffByte_escapeByte (s := State.withSampler v s) plain) armed rfl
    have taken (w : State) : unstuffByte b (w.withSampler { s with rxEsc := true }) =
        .next (w.withSampler (Machine.storeByte b s)) := by
      rw [unstuffByte_of_escaped b rfl, ← storeByte_withSampler, ← disarmed]
      rfl
    obtain ⟨u, data⟩ := (armed.withSampler v).rxRun_byte (fun w => taken w) (h.storeByte b) (storeByte_cfg b s)
    refine ⟨u, ?_⟩
    rw [stuffByte_of_framing framing, ← List.singleton_append, lineForm_append, rxRun_append, escape, andThen_next]
    exact data
  | false =>
    obtain ⟨noSentinel, noEscape⟩ := not_or.mp (of_decide_eq_false framing)
    rw [stuffByte_of_not_framing framing]
    refine h.rxRun_byte (fun v => ?_) (h.storeByte b) (storeByte_cfg b s)
    rw [unstuffByte_literal (by exact plain) noEscape noSentinel, storeByte_withSampler]

/-- The slots of a stuffed sequence store it. -/
theorem Hunting.rxRun_stuff (plain : s.rxEsc = false) (l : List Byte) :
    ∃ u, rxRun (lineForm s.cfg (stuff l)) s = .next (State.withSampler u (storeAll l s)) := by
  induction l generalizing s with
  | nil => exact ⟨s, rfl⟩
  | cons b rest ih =>
    obtain ⟨v, first⟩ := h.rxRun_stuffByte plain b
    obtain ⟨u, others⟩ := ih ((h.storeByte b).withSampler v) ((storeByte_rxEsc b s).trans plain)
    refine ⟨u, ?_⟩
    rw [storeAll_withSampler, State.withSampler_withSampler, State.withSampler_cfg, storeByte_cfg] at others
    rw [stuff, lineForm_append, rxRun_append, first, andThen_next, others, storeAll]

end Samples

/-! ### The end of the unit (R164, R245, R246) -/

/-- `s` after it accepted `f` from the unit whose bytes are left in `m`. -/
def State.delivered (s : State) (m : Memory) (f : Frame) : State :=
  { s with
    rxBuf := m, rxLen := 0, rxOvf := false, framesReceived := s.framesReceived + 1
    pendingAck := some { destination := f.source, sequence := f.sequenceNumber }
    inq := s.inq ++ [{ f with isAcknowledgment := false }]
    out := { s.out with cause := some .acted } }

/-- The end of a valid, new data frame's unit delivers it where `inq` has room. -/
theorem endUnit_of_valid {s : State} {m : Memory} {u : List Byte} {f : Frame} (run : m.readRun 0 u.length = u)
    (fits : u.length ≤ s.cfg.rxBufBytes) (decoded : decodeFrame u = some f) (unmatched : s.ackMatches u = false)
    (valid : verify f s.cfg.myId s.expected = true) (room : s.inq.length < s.cfg.queueCap) :
    endUnit { s with rxBuf := m, rxLen := u.length, rxOvf := false } = .next (s.delivered m f) := by
  have accepted : State.unitOutcome { s with rxBuf := m, rxLen := u.length, rxOvf := false } u = .accept f :=
    State.unitOutcome_of_valid decoded unmatched valid
  rw [endUnit_of_run run fits, handleUnit_of_accept accepted, acceptFrame_of_room (by exact room)]
  rfl

/-- The waveform of a valid, new data frame has it delivered; otherwise only the sampler moves. -/
theorem Hunting.rxRun_unitWave {s : State} {f g : Frame} (h : Hunting s) (wf : s.rxBuf.wf = true)
    (plain : s.rxEsc = false) (empty : s.rxLen = 0) (unmarked : s.rxOvf = false)
    (fits : (encodeFrame f).length ≤ s.cfg.rxBufBytes) (decoded : decodeFrame (encodeFrame f) = some g)
    (unmatched : s.ackMatches (encodeFrame f) = false) (valid : verify g s.cfg.myId s.expected = true)
    (room : s.inq.length < s.cfg.queueCap) :
    ∃ m u, rxRun ((unitWave s.cfg f).map (voltage s.cfg)) s = .next (State.withSampler u (s.delivered m g)) := by
  obtain ⟨m, stored, run⟩ := storeAll_of_fits (encodeFrame f) s wf (by rwa [empty, Nat.zero_add])
  simp only [empty, Nat.zero_add, Memory.readRun_zero, List.nil_append] at stored run
  have body : storeAll (encodeFrame f) s = { s with rxBuf := m, rxLen := (encodeFrame f).length, rxOvf := false } := by
    rw [stored, ← unmarked]
  have holding : Hunting (storeAll (encodeFrame f) s) := by
    rw [body]
    exact ⟨h.legal, h.running, h.state⟩
  have ended (v : State) : unstuffByte sentinelByte (State.withSampler v (storeAll (encodeFrame f) s)) =
      .next (v.withSampler (s.delivered m g)) := by
    rw [body, unstuffByte_sentinelByte (by exact plain)]
    exact endUnit_of_valid (s := State.withSampler v s) run fits decoded unmatched valid room
  obtain ⟨v, sent⟩ := h.rxRun_stuff plain (encodeFrame f)
  obtain ⟨u, last⟩ := (holding.withSampler v).rxRun_byte (fun w => ended w)
    (⟨h.legal, h.running, h.state⟩ : Hunting (s.delivered m g)) (by rw [body]; rfl)
  have config : (State.withSampler v (storeAll (encodeFrame f) s)).cfg = s.cfg := by
    rw [body]
    rfl
  refine ⟨m, u, ?_⟩
  change rxRun (lineForm s.cfg (wire f)) s = _
  rw [wire, lineForm_append, rxRun_append, sent, andThen_next, ← config]
  exact last

/-- Settles O45: under the invariant the frame's unit fits, and the frame it decodes to is the one sent. -/
theorem transmittedFrameIsDelivered : Obligations.TransmittedFrameIsDelivered := by
  intro s f inv running hunting empty plain room data short here number header body unmatched
  have unmarked : s.rxOvf = false := by
    rw [← Bool.not_eq_true]
    intro marked
    have atCapacity := inv.buffer.overflow marked
    rw [empty, Config.rxBufBytes] at atCapacity
    exact absurd atCapacity (Nat.add_pos_left (by decide) _).ne
  have fits := (encodeFrame_length_le f).trans (Nat.add_le_add_left short headerBytes)
  have decoded := decodeFrame_encodeFrame (f := f) fun acknowledgment => absurd acknowledgment (by simp [data])
  have valid : verify { f with isAcknowledgment := decide (f.payload = []) } s.cfg.myId s.expected = true :=
    verify_iff.mpr ⟨here, number, header, body⟩
  obtain ⟨m, u, run⟩ := Hunting.rxRun_unitWave ⟨inv.legal, running, hunting⟩ inv.buffer.canonical plain empty unmarked
    fits decoded unmatched valid room
  refine ⟨_, run, ?_, number.symm, rfl, hunting, rfl, plain, rfl, rfl, rfl, rfl⟩
  change s.inq ++ [{ f with isAcknowledgment := false }] = _
  rw [← data]

end Sys2Proof.Machine

/-! PROOFS. Sequence numbers count (obligation O16; R35, R36, R213, R246, R247): TXP numbers a frame in one rule, RXP
accepts one at the end of a unit alone. -/

namespace Sys2Proof.Machine

/-! ### The sender's counter -/

/-- TXP numbers a frame exactly where it takes a descriptor (R213). -/
theorem TxpRule.numbers {s t : State} (rule : TxpRule s t) :
    t.framesSent = s.framesSent ∧ t.outq = s.outq ∨
      ∃ d rest, s.outq = d :: rest ∧ t = Machine.takeDescriptor d rest s := by
  cases rule with
  | takeDescriptor _ _ d rest _ queued => exact .inr ⟨d, rest, queued, rfl⟩
  | sendByte _ _ _ b => exact .inl (by rw [slotTick_frame]; exact ⟨rfl, rfl⟩)
  | sent =>
    refine .inl ?_
    cases acknowledgment : s.curIsAck with
    | true => exact endTransmission_of_ack acknowledgment ▸ ⟨rfl, rfl⟩
    | false => exact endTransmission_of_data acknowledgment ▸ ⟨rfl, rfl⟩
  | halted | halt | takeAck | noWork | acked | wait | retransmit | giveUp | failed => exact .inl ⟨rfl, rfl⟩

/-! ### The receiver's counter -/

/-- `t` accepts no frame over `s`. -/
def AcceptsNone (s t : State) : Prop :=
  t.framesReceived = s.framesReceived ∧ t.rxState = s.rxState ∧ t.inq = s.inq

/-- `t` accepts one frame over `s`: delivered, or held in `Deliver` (R246). -/
def AcceptsOne (s t : State) : Prop :=
  t.framesReceived = s.framesReceived + 1 ∧ ∃ f : Frame, f.destination = s.cfg.myId ∧
    f.sequenceNumber = t.framesReceived ∧
    t.pendingAck = some { destination := f.source, sequence := f.sequenceNumber } ∧
    (t.inq = s.inq ++ [f] ∧ t.rxState = s.rxState ∨
      t.inq = s.inq ∧ t.rxState = .deliver ∧ ∃ u g, t.heldUnit = some u ∧ decodeFrame u = some g ∧ f = asData g)

section Counts
variable {s t : State}

/-- The frame a unit is accepted for carries the new number (R36, R245, R246). -/
theorem acceptFrame_acceptsOne {u : List Byte} {f : Frame} (held : s.heldUnit = some u)
    (outcome : s.unitOutcome u = .accept f) : AcceptsOne s (acceptFrame f s) := by
  obtain ⟨decoded, -, valid⟩ := State.unitOutcome_accept outcome
  obtain ⟨here, number, -, -⟩ := verify_iff.mp valid
  by_cases room : s.inq.length < s.cfg.queueCap
  · rw [acceptFrame_of_room room]
    exact ⟨rfl, asData f, here, number, rfl, .inl ⟨rfl, rfl⟩⟩
  · rw [acceptFrame_of_full (not_lt.mp room)]
    exact ⟨rfl, asData f, here, number, rfl, .inr ⟨rfl, rfl, u, f, held, decoded, rfl⟩⟩

theorem endUnit_accepts (h : endUnit s = .next t) : AcceptsNone s t ∨ AcceptsOne s t := by
  obtain ⟨u, held, rfl⟩ := endUnit_eq_next h
  obtain ⟨c, handled⟩ | ⟨-, handled⟩ | ⟨f, outcome, handled⟩ | ⟨f, handled⟩ :=
    handleUnit_cases u s.rxOvf { s with rxOvf := false }
  all_goals rw [handled]
  · exact .inl ⟨rfl, rfl, rfl⟩
  · exact .inl ⟨rfl, rfl, rfl⟩
  · exact .inr (acceptFrame_acceptsOne (s := { s with rxOvf := false }) held outcome)
  · rw [dropDuplicate_eq]
    exact .inl ⟨rfl, rfl, rfl⟩

theorem storeByte_acceptsNone (b : Byte) (s : State) : AcceptsNone s (storeByte b s) := by
  unfold storeByte
  split_ifs <;> exact ⟨rfl, rfl, rfl⟩

/-- Only the sentinel ends a unit, and so only it has one accepted (R164). -/
theorem unstuffByte_accepts {b : Byte} (h : unstuffByte b s = .next t) : AcceptsNone s t ∨ AcceptsOne s t := by
  unfold unstuffByte at h
  split_ifs at h
  · cases h
    exact .inl (storeByte_acceptsNone b { s with rxEsc := false })
  · cases h
    exact .inl ⟨rfl, rfl, rfl⟩
  · exact endUnit_accepts h
  · cases h
    exact .inl (storeByte_acceptsNone b s)

theorem huntSample_counts (v : Int) (s : State) (hunting : s.rxState = .hunt) :
    (huntSample v s).framesReceived = s.framesReceived ∧ (huntSample v s).rxState ≠ .deliver ∧
      (huntSample v s).inq = s.inq := by
  unfold huntSample
  split_ifs <;> simp [hunting]

/-- What RXP's step does to the counter, to `Deliver` and to `inq` (R36, R246, R247). -/
theorem rxpStep_counts (h : rxpStep s = .next t) :
    (t.framesReceived = s.framesReceived ∧ (t.rxState = .deliver → s.rxState = .deliver) ∧
        (t.inq = s.inq ∨ s.rxState = .deliver ∧ ∃ u f, s.heldUnit = some u ∧ decodeFrame u = some f ∧
          t.inq = s.inq ++ [asData f])) ∨
      s.rxState = .data ∧ AcceptsOne { s with rxState := .hunt } t := by
  obtain ⟨-, rfl⟩ | ⟨-, -, rfl⟩ | ⟨-, hunting, rfl⟩ | ⟨-, receiving, sampled⟩ | ⟨-, delivering, delivered⟩ :=
    rxpStep_cases h
  · exact .inl ⟨rfl, id, .inl rfl⟩
  · exact .inl ⟨rfl, nofun, .inl rfl⟩
  · obtain ⟨count, noDeliver, queue⟩ := huntSample_counts s.lineIn s hunting
    exact .inl ⟨count, fun deliver => absurd deliver noDeliver, .inl queue⟩
  · rw [dataSample_eq] at sampled
    split_ifs at sampled
    · obtain ⟨count, state, queue⟩ | accepted := unstuffByte_accepts sampled
      · exact .inl ⟨count, fun deliver => absurd (state.symm.trans deliver) nofun, .inl queue⟩
      · exact .inr ⟨receiving, accepted⟩
    all_goals cases sampled
    all_goals exact .inl ⟨rfl, id, .inl rfl⟩
  · obtain ⟨-, rfl⟩ | ⟨-, u, f, held, decoded, rfl⟩ := deliverHeld_eq_next delivered
    · exact .inl ⟨rfl, id, .inl rfl⟩
    · exact .inl ⟨rfl, nofun, .inr ⟨delivering, u, f, held, decoded, rfl⟩⟩

end Counts

/-- Settles O16: by whose turn it is; only TXP numbers, only RXP accepts. -/
theorem numbersAreConsecutive : Obligations.NumbersAreConsecutive := by
  intro s t inv h noReset
  cases turnWrites_of_step inv.own h with
  | line turn begun =>
    subst begun
    exact ⟨.inl ⟨rfl, fun _ => rfl⟩, .inl ⟨rfl, id, .inl ⟨[], rfl⟩⟩⟩
  | host turn q next writes =>
    have frame := writes.frame
    exact ⟨.inl ⟨(congrArg State.framesSent frame :), fun txp => absurd (turn.symm.trans txp) nofun⟩,
      .inl ⟨(congrArg State.framesReceived frame :), (congrArg State.rxState frame :).symm.trans, .inl writes.inq⟩⟩
  | reset turn bit => exact absurd ⟨turn, bit⟩ noReset
  | rxp turn step writes =>
    refine ⟨.inl ⟨(congrArg State.framesSent writes.frame :), fun txp => absurd (turn.symm.trans txp) nofun⟩, ?_⟩
    obtain ⟨count, deliver, queue⟩ | ⟨receiving, count, accepted⟩ := rxpStep_counts step
    · refine .inl ⟨count, deliver, ?_⟩
      obtain same | ⟨delivering, held⟩ := queue
      · exact .inl ⟨[], same.symm⟩
      · exact .inr ⟨turn, delivering, held⟩
    · exact .inr ⟨count, turn, receiving, accepted⟩
  | txp turn step writes =>
    have frame := writes.frame
    refine ⟨?_, .inl ⟨(congrArg State.framesReceived frame :), (congrArg State.rxState frame :).symm.trans,
      .inl ⟨[], (congrArg State.inq frame :).symm⟩⟩⟩
    obtain ⟨count, queue⟩ | ⟨d, rest, queued, rfl⟩ := (txpRule_of_txpStep step).numbers
    · exact .inl ⟨count, fun _ => queue⟩
    · exact .inr ⟨rfl, turn, d, queued, rfl⟩

end Sys2Proof.Machine

/-! PROOFS. Single rows (obligations O40, O41, O46, O47, O49, O53, O55, O56): each is the rule of its condition, as the
lemmas about the dispatch and about the operations give it. -/

namespace Sys2Proof.Machine

/-! ### The ideal line (R302) -/

section Line
variable {c : Config} {ls : List Level} {l : Level}

theorem mem_drivenLevels : l ∈ drivenLevels ls ↔ l ∈ ls ∧ l ≠ .neutral := by
  rw [drivenLevels, List.mem_filter, decide_eq_true_iff]

theorem resolveLine_of_quiet (quiet : ∀ x ∈ ls, x = .neutral) : resolveLine c ls = c.vNeutral := by
  have none : drivenLevels ls = [] := List.eq_nil_iff_forall_not_mem.mpr fun x driven =>
    have ⟨mem, active⟩ := mem_drivenLevels.mp driven
    active (quiet x mem)
  rw [resolveLine, none]

/-- Drivers that agree show their level, whether it is NEUTRAL or driven. -/
theorem resolveLine_of_agree (shown : l ∈ ls) (agree : ∀ x ∈ ls, x = .neutral ∨ x = l) :
    resolveLine c ls = voltage c l := by
  by_cases neutral : l = .neutral
  · subst neutral
    exact resolveLine_of_quiet fun x mem => (agree x mem).elim id id
  · have same : ∀ x ∈ drivenLevels ls, x = l := fun x driven =>
      have ⟨mem, active⟩ := mem_drivenLevels.mp driven
      (agree x mem).resolve_left active
    unfold resolveLine
    cases driven : drivenLevels ls with
    | nil => exact absurd (mem_drivenLevels.mpr ⟨shown, neutral⟩) (driven ▸ List.not_mem_nil)
    | cons x rest =>
      rw [driven] at same
      obtain ⟨first, others⟩ := List.forall_mem_cons.mp same
      have all : (rest.all fun l' => decide (l' = l)) = true :=
        List.all_eq_true.mpr fun y mem => decide_eq_true (others y mem)
      dsimp only
      rw [first, if_pos all]

end Line

/-- Settles O46: an endpoint among quiet ones is a driver with which all agree. -/
theorem idealLineResolves : Obligations.IdealLineResolves := by
  refine fun c ls l => ⟨resolveLine_of_quiet, resolveLine_of_agree, fun s quiet silent => ?_⟩
  refine resolveLine_of_agree List.mem_cons_self (List.forall_mem_cons.mpr ⟨.inr rfl, fun x mem => ?_⟩)
  obtain ⟨q, attached, rfl⟩ := List.mem_map.mp mem
  exact .inl (silent q attached)

/-! ### Output codes (R105, R112, R282) -/

/-- Settles O40: the rows write the model's output alone. -/
theorem outputCodeRows : Obligations.OutputCodeRows :=
  fun _ => ⟨rfl, rfl, rfl, rfl, rfl, rfl, rfl, rfl, rfl, rfl, rfl, rfl, rfl, rfl, rfl, rfl, rfl⟩

/-! ### One tick of a slot (R181, R182) -/

section SlotTick
variable {s : State} {b : Byte}

theorem exec_slot (b : Byte) (s : State) : exec (.slot b) s = .next (slotTick b s) := rfl

theorem slotTick_of_guard (phase : s.txPhase = .guard) : slotTick b s =
    if s.txCnt + 1 = s.cfg.guardTicks then { s with lineOut := .low, txPhase := .start, txCnt := 0 }
    else { s with lineOut := .low, txCnt := s.txCnt + 1 } := by
  have tick := slotTick_guard s b s.txWidx s.txCnt s.txBit s.lineOut
  rw [← phase] at tick
  exact tick

theorem slotTick_of_start (phase : s.txPhase = .start) : slotTick b s =
    if s.txCnt + 1 = s.cfg.pulseTicks then { s with lineOut := .high, txPhase := .bit, txCnt := 0, txBit := 0 }
    else { s with lineOut := .high, txCnt := s.txCnt + 1 } := by
  have tick := slotTick_start s b s.txWidx s.txCnt s.txBit s.lineOut
  rw [← phase] at tick
  exact tick

theorem slotTick_of_bit (phase : s.txPhase = .bit) : slotTick b s =
    if s.txCnt + 1 < s.cfg.pulseTicks then
      { s with lineOut := levelOfBit (b.getLsbD (7 - s.txBit)), txCnt := s.txCnt + 1 }
    else if s.txBit < 7 then
      { s with lineOut := levelOfBit (b.getLsbD (7 - s.txBit)), txCnt := 0, txBit := s.txBit + 1 }
    else
      { s with
        lineOut := levelOfBit (b.getLsbD (7 - s.txBit)), txCnt := 0, txBit := 0, txPhase := .guard
        txWidx := s.txWidx + 1 } := by
  have tick := slotTick_bit s b s.txWidx s.txCnt s.txBit s.lineOut
  rw [← phase] at tick
  exact tick

end SlotTick

/-- Settles O41: the three phases, and the wire byte at the cursor. -/
theorem sequencerTick : Obligations.SequencerTick := by
  intro s b
  simp only [exec_slot, exec_txseq]
  refine ⟨fun phase => ?_, fun phase => ?_, fun phase => ?_, fun f running sending frame byte => ?_⟩
  · rw [slotTick_of_guard phase]
  · rw [slotTick_of_start phase]
  · rw [slotTick_of_bit phase]
    by_cases within : s.txCnt + 1 < s.cfg.pulseTicks
    · simp only [within, if_true, true_or, ← phase]
      rfl
    · by_cases more : s.txBit < 7
      · simp only [within, more, if_true, if_false, or_true, ← phase]
        rfl
      · simp only [within, more, if_false, or_false]
        rfl
  · have tick := txpStep_of_wireByte running sending frame byte
    exact ⟨tick, _, tick⟩

/-! ### Transmit rows (R183, R212, R213, R215, R220) -/

/-- Settles O47: the acknowledgment goes first; a descriptor is numbered and finalised. -/
theorem idleTakesWork : Obligations.IdleTakesWork := by
  refine fun s running idle => ⟨fun p pending => ?_, fun d rest noAck queued => ?_⟩
  · rw [exec_txIdleAck, txpStep_of_pendingAck running idle pending]
    rfl
  · rw [exec_txIdleData, txpStep_of_descriptor running idle noAck queued]
    rfl

/-- Settles O49: past the last wire byte the transmission ends, by the kind of its frame. -/
theorem transmissionEnds : Obligations.TransmissionEnds := by
  intro s f running sending frame index
  rw [exec_txSent, txpStep_of_wireDone running sending frame index]
  exact ⟨fun acknowledgment => by rw [endTransmission_of_ack acknowledgment],
    fun data => by rw [endTransmission_of_data data]⟩

theorem reportFailure_of_frame {s : State} {f : Frame} (frame : s.cur = some f) :
    reportFailure s = .next (s.raiseDeliveryFailed f.destination f.sequenceNumber) := by
  rw [reportFailure, frame]

/-- Settles O53: the failed frame is the one reported. -/
theorem failureReported : Obligations.FailureReported := by
  intro s f running failed frame
  have selected : s.txIn .failed = true := by simp [State.txIn, running, failed]
  rw [exec_txFailed, txpStep_of_failed running failed, failFrame, exec_deliveryfailed, selected,
    reportFailure_of_frame frame]
  exact ⟨rfl, rfl⟩

/-! ### HOST's answers (R261, R262) -/

section Answers
variable {s : State} {n : Nat}

theorem State.sendAnswer_of_shutdown (stopping : s.shutdown = true) : s.sendAnswer n = .cancelled :=
  if_pos stopping

theorem State.sendAnswer_of_long (running : s.shutdown = false) (long : s.cfg.maxPayload < n) :
    s.sendAnswer n = .tooLong := by
  rw [State.sendAnswer, running, if_pos long]
  rfl

theorem State.sendAnswer_of_full (running : s.shutdown = false) (short : n ≤ s.cfg.maxPayload)
    (noRoom : s.cfg.queueCap ≤ s.outq.length) : s.sendAnswer n = .wouldBlock := by
  rw [State.sendAnswer, running, if_neg short.not_gt, (full_iff _ _).mpr noRoom]
  rfl

theorem State.sendAnswer_of_room (running : s.shutdown = false) (short : n ≤ s.cfg.maxPayload)
    (room : s.outq.length < s.cfg.queueCap) : s.sendAnswer n = .ok := by
  rw [State.sendAnswer, running, if_neg short.not_gt, Bool.eq_false_iff.mpr (mt (full_iff _ _).mp room.not_ge)]
  rfl

theorem execRecv_of_empty (running : s.shutdown = false) (noFrame : s.inq = []) :
    execRecv s = .next (s.answerRecv .wouldBlock) := by
  rw [execRecv, if_neg (Bool.eq_false_iff.mp running), noFrame]

theorem execRecv_of_frame {f : Frame} {rest : List Frame} (running : s.shutdown = false) (queued : s.inq = f :: rest) :
    execRecv s = .next (State.answerRecv (State.showFrame { s with inq := rest } f) .ok) := by
  rw [execRecv, if_neg (Bool.eq_false_iff.mp running), queued]

end Answers

/-- Settles O55: one equation of the answer for each case. -/
theorem sendAnswers : Obligations.SendAnswers := by
  intro s dst payload
  rw [show exec (.send dst payload) s = execSend dst payload s from rfl, execSend_eq]
  refine ⟨fun stopping => ?_, fun running long => ?_, fun running short noRoom => ?_, fun running short room => ?_⟩
  · rw [State.sendAnswer_of_shutdown stopping]
    rfl
  · rw [State.sendAnswer_of_long running long]
    rfl
  · rw [State.sendAnswer_of_full running short noRoom]
    rfl
  · rw [State.sendAnswer_of_room running short room]
    rfl

/-- Settles O56: `inq` holds validated frames alone (R41). -/
theorem recvAnswers : Obligations.RecvAnswers := by
  intro s
  rw [show exec .recv s = execRecv s from rfl]
  refine ⟨fun stopping => if_pos stopping, execRecv_of_empty,
    fun f rest running queued => ⟨execRecv_of_frame running queued, fun inv => ?_⟩⟩
  obtain ⟨-, here, header, body, -⟩ := inv.queues.inbound f (queued ▸ List.mem_cons_self)
  exact ⟨here, header, body⟩

end Sys2Proof.Machine
